-- ==== Sys2Proof/Word.lean ====
section
/-! DEFINITION. The two value types of the block: bytes and u16 (spec/00_scope.md rule R11). -/

namespace Sys2Proof

/-- An 8-bit unsigned value (R11). -/
abbrev Byte := BitVec 8

/-- A 16-bit unsigned value (R11). -/
abbrev U16 := BitVec 16

end Sys2Proof
end

