-- ==== Sys2Proof/Config.lean ====
section
/-! DEFINITION. The static configuration record CFG (spec/10_state.md rule R32, spec/00_scope.md rule R9) and the lengths the document fixes (R8). The two free values are what the dead loop counters BI and K hold after a checksum computation (log entry 5); everything else left open is a field of CFG or an answer of the transport, and both stand in State as plain data (log entries 2 and 13). -/

namespace Sys2Proof

/-- `CFG`: fixed before the first operation and constant afterwards (R32). -/
structure Cfg where
  /-- `FLUSH_EN`: `CLIENT.RHR` flushes the transport before the write (R176). -/
  flushEn : Bool
  /-- `FLUSH_ERR_ABORTS`: a failed flush ends `CLIENT.RHR` (R177). -/
  flushErrAborts : Bool
  /-- `CHECK_BYTECOUNT`: the decoder checks the byte-count field (R159). -/
  checkByteCount : Bool
  /-- `RX_CAP`: capacity of the response buffer in bytes (R53). -/
  rxCap : Nat
  deriving DecidableEq, Repr

/-- The defaults of R32: 1, 1, 0, 131075. -/
def Cfg.default : Cfg :=
  { flushEn := true, flushErrAborts := true, checkByteCount := false, rxCap := 131075 }

/-- The legal values of R32: each bit is 0 or 1 by its type, and `RX_CAP >= 5`. -/
abbrev Cfg.Legal (c : Cfg) : Prop := 5 ≤ c.rxCap

/-- What `BI` holds after a checksum computation over these bytes: not said, and read by nothing (R23). -/
opaque Config.deadByteIndex : List Byte → Nat

/-- What `K` holds after a checksum computation over these bytes: 0 to 7, not said which, and read by nothing (R23). -/
opaque Config.deadBitCounter : List Byte → Fin 8

end Sys2Proof
end

