-- ==== Sys2Proof/Machine/Operands.lean ====
section
/-! DEFINITION. Operand forms, byte order and buffer accesses: splitting and assembling 16-bit fields (spec/30_encoding.md rule R84), MemRead and MemWrite (spec/00_scope.md rule R13), the frame layouts as byte sequences (spec/20_memory.md rules R54, R57), and the extraction of registers (spec/42_response_decoder.md rules R150, R151, R156, R157). No state is used here. -/

namespace Sys2Proof.Machine

/-- `lo8(v) = v[7:0]` (R11). -/
def lo8 (v : U16) : Byte := v.setWidth 8

/-- `hi8(v) = v[15:8]` (R11). -/
def hi8 (v : U16) : Byte := (v >>> 8).setWidth 8

/-- `reg_of_bytes(hi, lo) = (zext_16(hi) << 8) | zext_16(lo)` (R150). -/
def regOfBytes (hi lo : Byte) : U16 := (hi.setWidth 16 <<< 8) ||| lo.setWidth 16

/-- `bytes_of_reg(v) = (hi8(v), lo8(v))` (R151). -/
def bytesOfReg (v : U16) : Byte × Byte := (hi8 v, lo8 v)

/-- A 16-bit field in wire order, high byte first (R55). -/
def bigEndian (v : U16) : List Byte := [hi8 v, lo8 v]

/-- `MemRead(B, off, 1)`: defined only inside the buffer (R13). -/
def memRead1 (b : List Byte) (off : Nat) : Option Byte := b[off]?

/-- `MemRead(B, off, 2)`: high byte first, defined only inside the buffer (R13). -/
def memRead2 (b : List Byte) (off : Nat) : Option U16 :=
  match b[off]?, b[off + 1]? with
  | some hi, some lo => some (regOfBytes hi lo)
  | _, _ => none

/-- `MemWrite(B, off, 1, v)`: defined only when `off + 1 <= len(B)` (R13). -/
def memWrite1 (b : List Byte) (off : Nat) (v : Byte) : Option (List Byte) :=
  if off + 1 ≤ b.length then some (b.set off v) else none

/-- `MemWrite(B, off, 2, v)`: high byte first, defined only when `off + 2 <= len(B)` (R13). -/
def memWrite2 (b : List Byte) (off : Nat) (v : U16) : Option (List Byte) :=
  if off + 2 ≤ b.length then some ((b.set off (hi8 v)).set (off + 1) (lo8 v)) else none

/-- A frame without its two trailer bytes, `s[0:len-2]` (R12, R14). -/
def payloadPrefix (f : List Byte) : List Byte := f.take (f.length - 2)

/-- The last two bytes of a frame (R14). -/
def trailerOf (f : List Byte) : List Byte := f.drop (f.length - 2)

/-- The exact length of a request frame (R8, R52). -/
def requestLength : Nat := 8

/-- `L = 5 + 2*COUNT`, in natural numbers without wrap-around (R53). -/
def responseLength (count : U16) : Nat := 5 + 2 * count.toNat

/-- Bytes 0 to 5 of a request frame (R54, R140). -/
def requestPrefix (addr fc : Byte) (start count : U16) : List Byte :=
  [addr, fc, hi8 start, lo8 start, hi8 count, lo8 count]

/-- Bytes of registers in wire order, each high byte first, ascending (R82). -/
def dataBytes (regs : List U16) : List Byte := regs.flatMap bigEndian

/-- The bytes of a response frame before its trailer (R82). -/
def responsePrefix (addr fc byteCount : Byte) (regs : List U16) : List Byte :=
  [addr, fc, byteCount] ++ dataBytes regs

/-- The registers that are whole in a run of data bytes: pairs, high byte first; an odd last byte belongs to no register (R157, R161). -/
def regsOfData : List Byte → List U16
  | hi :: lo :: rest => regOfBytes hi lo :: regsOfData rest
  | _ => []

/-- `computed_count = (actual_length - 5) / 2` (R156); used only at lengths of at least 5. -/
def computedCount (f : List Byte) : Nat := (f.length - 5) / 2

/-- The registers of a response frame: the pairs that start at offset 3 and end before the trailer (R157, R158). -/
def extractRegs (f : List Byte) : List U16 := regsOfData ((payloadPrefix f).drop 3)

/-- The bytes of a request frame of function code 3 with a given trailer (R81). -/
def reqFc03Bytes (addr : Byte) (start count : U16) (crcLo crcHi : Byte) : List Byte :=
  requestPrefix addr 0x03#8 start count ++ [crcLo, crcHi]

/-- The bytes of a response frame of function code 3 with a given trailer (R82). -/
def rspFc03Bytes (addr byteCount : Byte) (regs : List U16) (crcLo crcHi : Byte) : List Byte :=
  responsePrefix addr 0x03#8 byteCount regs ++ [crcLo, crcHi]

/-- The bytes of a request frame of function code 16; its four data bytes have no layout (R85). -/
def reqFc16Bytes (addr d2 d3 d4 d5 crcLo crcHi : Byte) : List Byte :=
  [addr, 0x10#8, d2, d3, d4, d5, crcLo, crcHi]

end Sys2Proof.Machine
end

