-- ==== Sys2Proof/Machine/Checksum.lean ====
section
/-! DEFINITION. The checksum (spec/40_crc_engine.md rules R110 to R114): crc_bit, crc_byte, crc16 and the trailer, the register-level engine of rule R112 with its registers CRC, BI and K, and the request frame that carries its own checksum (spec/41_frame_builder.md rule R140). It is the Modbus CRC-16 and not a CCITT CRC (spec/90_conflicts.md C1). -/

namespace Sys2Proof.Machine

/-- One shift step: the bit that decides is bit 0 before the shift (R110). -/
def crcBit (r : U16) : U16 := if r.getLsbD 0 then (r >>> 1) ^^^ 0xA001#16 else r >>> 1

/-- `crc_bit` eight times in succession. -/
def crcBit8 (r : U16) : U16 := crcBit (crcBit (crcBit (crcBit (crcBit (crcBit (crcBit (crcBit r)))))))

/-- One input byte: XOR it into the low 8 bits, then eight shift steps (R111). -/
def crcByte (r : U16) (b : Byte) : U16 := crcBit8 (r ^^^ b.setWidth 16)

/-- The initial value of every computation (R112). -/
def crcInit : U16 := 0xFFFF#16

/-- The checksum of a whole sequence: every byte is processed, in ascending offset (R112). -/
def crc16 (bytes : List Byte) : U16 := bytes.foldl crcByte crcInit

/-- The wire order of a checksum: low byte first (R113). -/
def trailer (v : U16) : List Byte := [lo8 v, hi8 v]

/-- A frame prefix with its own checksum behind it (R118). -/
def withTrailer (p : List Byte) : List Byte := p ++ trailer (crc16 p)

/-- The request frame `FRAME.BUILD` lays out (R54, R140). -/
def requestFrame (addr fc : Byte) (start count : U16) : List Byte :=
  withTrailer (requestPrefix addr fc start count)

/-- The registers of the engine during a computation: `CRC` (R22), `BI` and `K` (R23). -/
structure CrcEngine where
  crc : U16
  bi  : Nat
  k   : Fin 8
  deriving DecidableEq, Repr

/-- Where a computation starts: `CRC <- 0xFFFF`, byte 0, bit 0 (R112). -/
def engineStart : CrcEngine := { crc := crcInit, bi := 0, k := 0 }

/-- One shift step of the engine over the input; the byte is XORed in before the first of its eight
steps. With no byte left at `BI` the engine stands still (R23, R112). -/
def engineStep (bytes : List Byte) (e : CrcEngine) : CrcEngine :=
  match bytes[e.bi]? with
  | none => e
  | some b =>
    { crc := crcBit (if e.k = 0 then e.crc ^^^ b.setWidth 16 else e.crc)
      bi := if e.k = 7 then e.bi + 1 else e.bi
      k := e.k + 1 }

/-- `n` shift steps of the engine. -/
def engineRun (bytes : List Byte) : Nat → CrcEngine → CrcEngine
  | 0, e => e
  | n + 1, e => engineRun bytes n (engineStep bytes e)

end Sys2Proof.Machine
end

