-- ==== Sys2Proof/Machine/Flags.lean ====
section
/-! DEFINITION. The block's flags: the checksum comparison that becomes VALID (spec/10_state.md rule R27, spec/40_crc_engine.md rules R116, R118), the error classes with their ERR codes (spec/60_exceptions.md rules R200, R201), and the verdicts of CRC.VERIFY and of the decoder with their checks in the fixed order (rules R117, R153 to R159, R210). There are no other flags (R31). -/

namespace Sys2Proof.Machine

/-- `ERR`: how an operation ended (R28, R200). -/
inductive Err where
  /-- `None`: the operation completed. -/
  | noError
  /-- `TransportWriteError` (R202). -/
  | transportWrite
  /-- `TransportReadError` (R203). -/
  | transportRead
  /-- `CRCMismatchError` (R204). -/
  | crcMismatch
  /-- `MalformedFrameError` (R205). -/
  | malformedFrame
  /-- `TransportFlushError` (R207). -/
  | transportFlush
  deriving DecidableEq, Repr

/-- The codes of the `ERR` output (R201). -/
def errCode : Err → Nat
  | .noError => 0
  | .transportWrite => 1
  | .transportRead => 2
  | .crcMismatch => 3
  | .malformedFrame => 4
  | .transportFlush => 5

/-- The last two bytes are, byte for byte, the checksum of the bytes before them, low byte first (R116, R118). -/
def ownChecksum (f : List Byte) : Bool :=
  trailerOf f == trailer (crc16 (payloadPrefix f))

/-- `CRC.VERIFY`: the length guard at 2, then the comparison (R116, R117). -/
def verifyVerdict (f : List Byte) : Except Err Bool :=
  if f.length < 2 then .error .malformedFrame else .ok (ownChecksum f)

/-- The optional cross-check: the field at offset 2 against `2 * computed_count`, as natural numbers (R159). -/
def byteCountAgrees (f : List Byte) : Bool :=
  f[2]?.map BitVec.toNat == some (2 * computedCount f)

/-- `FRAME.DECODE`: the length guard at 5, the checksum gate, the optional byte-count check, the
extraction; the first check that fails ends it (R153, R210). -/
def decodeVerdict (checkByteCount : Bool) (f : List Byte) : Except Err (List U16) :=
  if f.length < 5 then .error .malformedFrame
  else if !ownChecksum f then .error .crcMismatch
  else if checkByteCount && !byteCountAgrees f then .error .malformedFrame
  else .ok (extractRegs f)

end Sys2Proof.Machine
end

