-- ==== Sys2Proof/Syntax.lean ====
section
/-! DEFINITION. The instruction set: one constructor for each row of spec/opcode_table.json (five operations of format CMD, the two wire formats of function code 3, the reserved request format of function code 16), the three formats (spec/30_encoding.md rule R80), and the words a host hands to the block. -/

namespace Sys2Proof

/-- The three formats of R80, which number their bytes apart: an operation word, a request frame, a response frame. -/
inductive Format where
  | cmd
  | req8
  | rspv
  deriving DecidableEq, Repr

/-- What the host hands to the block at issue: a format and its bytes, the first byte at offset 0 (R51).
A byte-sequence operand carries its length (R87), which is the length of this word (log entry 6). -/
structure IssueWord where
  fmt   : Format
  bytes : List Byte
  deriving DecidableEq, Repr

/-- The rows of the opcode table. All operands are unsigned and passed by value (R87). -/
inductive Instr where
  /-- `CRC.COMPUTE IN` (R115). -/
  | crcCompute (input : List Byte)
  /-- `CRC.VERIFY IN` (R116). -/
  | crcVerify (input : List Byte)
  /-- `FRAME.BUILD ADDR, FC, START, COUNT` (R140). -/
  | frameBuild (addr fc : Byte) (start count : U16)
  /-- `FRAME.DECODE IN, REQCNT` (R153). -/
  | frameDecode (input : List Byte) (reqcnt : U16)
  /-- `CLIENT.RHR ADDR, START, COUNT` (R174). -/
  | clientRhr (addr : Byte) (start count : U16)
  /-- `REQ.FC03`, the request frame of function code 3 (R81). -/
  | reqFc03 (addr : Byte) (start count : U16) (crcLo crcHi : Byte)
  /-- `RSP.FC03`, the response frame of function code 3 (R82). -/
  | rspFc03 (addr byteCount : Byte) (regs : List U16) (crcLo crcHi : Byte)
  /-- `REQ.FC16`, reserved: the bytes at offsets 2 to 5 are data for which there is no layout (R85). -/
  | reqFc16 (addr d2 d3 d4 d5 crcLo crcHi : Byte)
  deriving DecidableEq, Repr

/-- Why the decoder takes no instruction from a word, one name for each reason. -/
inductive DecodeError where
  /-- An operation word without an operation byte. -/
  | emptyOperationWord
  /-- `OP` is `0x05` to `0xFF`: reserved (R88). -/
  | reservedOperationCode (op : Byte)
  /-- The bytes after `OP` are not the operands of that operation, each exactly as wide as R21 says (R87). -/
  | operandBytes (op : Byte)
  /-- A request frame is always exactly 8 bytes (R89). -/
  | requestFrameLength
  /-- A response frame is `5 + 2*count` bytes with a 16-bit count (R82). -/
  | responseFrameLength
  /-- A function code other than 3 and 16 has no frame format (R85); a response has only 3 (R82). -/
  | functionCode (fc : Byte)
  deriving DecidableEq, Repr

end Sys2Proof
end

