-- ==== Sys2Proof/WellFormed.lean ====
section
/-! DEFINITION. Well-formed instructions. Every operand value of the five operations is legal (spec/00_scope.md rule R10); a frame is well formed when its trailer is its own checksum (spec/30_encoding.md rules R81, R82; spec/40_crc_engine.md rule R118) and, for a response, when it holds at most 65535 registers, which is what a 16-bit count can ask for (rule R82). -/

namespace Sys2Proof

/-- The check on an instruction. -/
def wellFormed : Instr → Bool
  | .crcCompute _ => true
  | .crcVerify _ => true
  | .frameBuild _ _ _ _ => true
  | .frameDecode _ _ => true
  | .clientRhr _ _ _ => true
  | .reqFc03 addr start count crcLo crcHi =>
      Machine.ownChecksum (Machine.reqFc03Bytes addr start count crcLo crcHi)
  | .rspFc03 addr byteCount regs crcLo crcHi =>
      decide (regs.length ≤ 65535) &&
        Machine.ownChecksum (Machine.rspFc03Bytes addr byteCount regs crcLo crcHi)
  | .reqFc16 addr d2 d3 d4 d5 crcLo crcHi =>
      Machine.ownChecksum (Machine.reqFc16Bytes addr d2 d3 d4 d5 crcLo crcHi)

/-- `i` is well formed. -/
abbrev WellFormed (i : Instr) : Prop := wellFormed i = true

end Sys2Proof
end

