-- ==== Sys2Proof/Decode.lean ====
section
/-! DEFINITION. The decoder, total on any word and rejecting by name, the encoder, and the reading of the opcode table's words. Operation codes: spec/30_encoding.md rule R86; operand widths and order: rules R87, R92; frames: rules R81, R82, R84, R85, R89; reserved codes: rule R88. The bytes of the operands after `OP` are the model's choice (log entry 6). -/

namespace Sys2Proof

open Machine

/-- `OP` of each operation (R86). -/
def opCrcCompute : Byte := 0x00#8
def opCrcVerify : Byte := 0x01#8
def opFrameBuild : Byte := 0x02#8
def opFrameDecode : Byte := 0x03#8
def opClientRhr : Byte := 0x04#8

/-- Operands `ADDR, FC, START, COUNT`, the 16-bit ones high byte first. -/
def decodeBuildOperands : List Byte → Except DecodeError Instr
  | [addr, fc, sh, sl, ch, cl] => .ok (.frameBuild addr fc (regOfBytes sh sl) (regOfBytes ch cl))
  | _ => .error (.operandBytes opFrameBuild)

/-- Operands `IN, REQCNT`: the last two bytes are the count, high byte first, all before them is `IN`. -/
def decodeDecodeOperands (rest : List Byte) : Except DecodeError Instr :=
  match trailerOf rest with
  | [hi, lo] => .ok (.frameDecode (payloadPrefix rest) (regOfBytes hi lo))
  | _ => .error (.operandBytes opFrameDecode)

/-- Operands `ADDR, START, COUNT`. -/
def decodeRhrOperands : List Byte → Except DecodeError Instr
  | [addr, sh, sl, ch, cl] => .ok (.clientRhr addr (regOfBytes sh sl) (regOfBytes ch cl))
  | _ => .error (.operandBytes opClientRhr)

/-- Format `CMD` (R86); `0x05` to `0xFF` spell no operation (R88). -/
def decodeCmd : List Byte → Except DecodeError Instr
  | [] => .error .emptyOperationWord
  | op :: rest =>
    if op = opCrcCompute then .ok (.crcCompute rest)
    else if op = opCrcVerify then .ok (.crcVerify rest)
    else if op = opFrameBuild then decodeBuildOperands rest
    else if op = opFrameDecode then decodeDecodeOperands rest
    else if op = opClientRhr then decodeRhrOperands rest
    else .error (.reservedOperationCode op)

/-- Format `REQ8`: exactly 8 bytes (R89), function code 3 or the reserved 16 (R85). -/
def decodeReq8 : List Byte → Except DecodeError Instr
  | [addr, fc, b2, b3, b4, b5, crcLo, crcHi] =>
    if fc = 0x03#8 then .ok (.reqFc03 addr (regOfBytes b2 b3) (regOfBytes b4 b5) crcLo crcHi)
    else if fc = 0x10#8 then .ok (.reqFc16 addr b2 b3 b4 b5 crcLo crcHi)
    else .error (.functionCode fc)
  | _ => .error .requestFrameLength

/-- Format `RSPV`: `5 + 2*count` bytes, `count` a 16-bit number (R82), function code 3. -/
def decodeRspv : List Byte → Except DecodeError Instr
  | addr :: fc :: byteCount :: rest =>
    if rest.length % 2 ≠ 0 ∨ 65535 < (rest.length - 2) / 2 then .error .responseFrameLength
    else if fc ≠ 0x03#8 then .error (.functionCode fc)
    else
      match trailerOf rest with
      | [crcLo, crcHi] => .ok (.rspFc03 addr byteCount (regsOfData (payloadPrefix rest)) crcLo crcHi)
      | _ => .error .responseFrameLength
  | _ => .error .responseFrameLength

/-- The decoder. -/
def decode (w : IssueWord) : Except DecodeError Instr :=
  match w.fmt with
  | .cmd => decodeCmd w.bytes
  | .req8 => decodeReq8 w.bytes
  | .rspv => decodeRspv w.bytes

/-- The encoder, from the same tables. -/
def encode : Instr → IssueWord
  | .crcCompute input => { fmt := .cmd, bytes := opCrcCompute :: input }
  | .crcVerify input => { fmt := .cmd, bytes := opCrcVerify :: input }
  | .frameBuild addr fc start count =>
      { fmt := .cmd, bytes := opFrameBuild :: addr :: fc :: (bigEndian start ++ bigEndian count) }
  | .frameDecode input reqcnt => { fmt := .cmd, bytes := opFrameDecode :: (input ++ bigEndian reqcnt) }
  | .clientRhr addr start count =>
      { fmt := .cmd, bytes := opClientRhr :: addr :: (bigEndian start ++ bigEndian count) }
  | .reqFc03 addr start count crcLo crcHi =>
      { fmt := .req8, bytes := reqFc03Bytes addr start count crcLo crcHi }
  | .rspFc03 addr byteCount regs crcLo crcHi =>
      { fmt := .rspv, bytes := rspFc03Bytes addr byteCount regs crcLo crcHi }
  | .reqFc16 addr d2 d3 d4 d5 crcLo crcHi =>
      { fmt := .req8, bytes := reqFc16Bytes addr d2 d3 d4 d5 crcLo crcHi }

/-- The `n` low bytes of a number, most significant first: the opcode table numbers a frame with byte 0
as its most significant byte (log entry 7). -/
def bigEndianBytes : Nat → Nat → List Byte
  | 0, _ => []
  | n + 1, w => bigEndianBytes n (w / 256) ++ [BitVec.ofNat 8 w]

/-- The fewest operand bytes an operation word has after its `OP`: those of its scalar operands (R21). -/
def scalarOperandBytes (op : Byte) : Nat :=
  if op = opFrameBuild then 6 else if op = opFrameDecode then 2 else if op = opClientRhr then 5 else 0

/-- The issue word of an opcode-table word: 8 bits are an operation code with its operands zero, 64 bits
a request frame, any other number of bits the first bytes of a response frame, with zeros up to the
shortest response of 5 bytes (log entry 7). -/
def tableIssueWord (nbits w : Nat) : IssueWord :=
  if nbits ≤ 8 then
    { fmt := .cmd, bytes := BitVec.ofNat 8 w :: List.replicate (scalarOperandBytes (BitVec.ofNat 8 w)) 0#8 }
  else if nbits = 64 then { fmt := .req8, bytes := bigEndianBytes 8 w }
  else
    { fmt := .rspv
      bytes := bigEndianBytes (max 3 (nbits / 8)) w ++ List.replicate (5 - max 3 (nbits / 8)) 0#8 }

/-- What the decoder reads from an opcode-table word. -/
def decodeTableWord (nbits w : Nat) : Option Instr :=
  match decode (tableIssueWord nbits w) with
  | .ok i => some i
  | .error _ => none

end Sys2Proof
end

