-- ==== Sys2Proof/Machine/State.lean ====
section
/-! DEFINITION. The machine's state as plain data, its fault and refusals, and its reset value (spec/10_state.md rules R20 to R37, spec/70_reset_and_hazards.md rules R230, R231). The three agents of rule R20 stand in it: the block (its registers, buffers and client state), the host (the words it will issue) and the transport (the answers it will give, and what it has been asked). -/

namespace Sys2Proof.Machine

/-- `CST`, the client state (R30). -/
inductive ClientState where
  | idle
  | awaitingResponse
  deriving DecidableEq, Repr

/-- The three transport transactions, as what a running `CLIENT.RHR` waits for (R170 to R173). -/
inductive Wait where
  | flush
  | write
  | read
  deriving DecidableEq, Repr

/-- The status of a transport answer, `ok` or `error` (R171 to R173). -/
inductive Status where
  | ok
  | error
  deriving DecidableEq, Repr

/-- `(w, e)`, the answer to `T.write` (R172). -/
structure WriteAnswer where
  accepted : Nat
  status   : Status
  deriving DecidableEq, Repr

/-- `(b, e)`, the answer to `T.read` (R173). -/
structure ReadAnswer where
  bytes  : List Byte
  status : Status
  deriving DecidableEq, Repr

/-- A transaction the block has issued (R171 to R173). -/
inductive Transaction where
  | flush
  | write (bytes : List Byte)
  | read (cap : Nat)
  deriving DecidableEq, Repr

/-- The data result of an operation that completed (R86). -/
inductive Result where
  /-- The two bytes of `CRC.COMPUTE`, in wire order (R115). -/
  | checksum (lo hi : Byte)
  /-- `VALID`, the result of `CRC.VERIFY` (R27). -/
  | validity (valid : Bool)
  /-- The frame of `FRAME.BUILD` (R140). -/
  | frame (bytes : List Byte)
  /-- The registers of `FRAME.DECODE` and `CLIENT.RHR` (R26). -/
  | registers (regs : List U16)
  deriving DecidableEq, Repr

/-- What the host receives when an operation ends: `ERR` and the data result, if any (R28, R200). -/
structure Completion where
  err  : Err
  data : Option Result
  deriving DecidableEq, Repr

/-- The machine. -/
structure State where
  /-- `CFG` (R32), constant. -/
  cfg : Cfg
  /-- `ADDR`, operand register (R21). -/
  addr : Byte
  /-- `FC`, operand register (R21). -/
  fc : Byte
  /-- `START`, operand register (R21). -/
  start : U16
  /-- `COUNT`, operand register (R21). -/
  count : U16
  /-- `REQCNT`, operand register (R21). -/
  reqcnt : U16
  /-- `IN`, operand register (R21). -/
  input : List Byte
  /-- `CRC`, the running value (R22). -/
  crc : U16
  /-- `BI`, byte index (R23). -/
  bi : Nat
  /-- `K`, bit counter (R23). -/
  k : Fin 8
  /-- `TXF`, the request frame buffer (R24). -/
  txf : List Byte
  /-- `RXB[0:RXN]`, the part of the response buffer that has a value (R25, R36). -/
  rxb : List Byte
  /-- `REGS`; `none` is the spec's "no value" (R26, R35, R36). -/
  regs : Option (List U16)
  /-- `CST` (R30). -/
  cst : ClientState
  /-- The busy indication (R35): the transport answer a running `CLIENT.RHR` waits for. -/
  running : Option Wait
  /-- The output of the last operation, `ERR` and `VALID` in it; `none` is "no value" (R27, R28, R35). -/
  out : Option Completion
  /-- The host: the words it will issue, one after another (R20, R236). -/
  host : List IssueWord
  /-- The transport: its answers to the coming flushes (R170, R171). -/
  flushAnswers : List Status
  /-- The transport: its answers to the coming writes (R170, R172). -/
  writeAnswers : List WriteAnswer
  /-- The transport: its answers to the coming reads (R170, R173). -/
  readAnswers : List ReadAnswer
  /-- The transactions the block has issued, oldest first; the model's own record. -/
  bus : List Transaction
  deriving DecidableEq, Repr

/-- Why a step stops the machine with a fault. -/
inductive Fault where
  /-- Raised by `step` when a running `CLIENT.RHR` waits for an answer the transport does not give:
  the block has no step, a hang and not an end (R187). Safe: nothing is concluded past it (log entry 10). -/
  | transportDoesNotAnswer (w : Wait)
  deriving DecidableEq, Repr

/-- Why an instruction is refused. All are safe: they err toward unprovable. -/
inductive Refusal where
  /-- Raised by `exec` for an instruction that has no meaning yet. -/
  | notModelled (mnemonic : String)
  /-- Raised by `step`: the issued word spells no operation and no frame; no state changes (R88). -/
  | undecodable (e : DecodeError)
  /-- Raised by every meaning: issued while an operation is running (R236). -/
  | issuedWhileBusy
  /-- Raised by the meaning of `REQ.FC16`: no operation exists for function code 16 (R85). -/
  | functionCode16Reserved
  /-- Raised by `CLIENT.RHR`: `5 + 2*COUNT` exceeds `CFG.RX_CAP` (R53). -/
  | responseExceedsCapacity
  /-- Raised by `CLIENT.RHR`: the transport accepted more bytes than it was offered (R172). -/
  | writeAnswerBeyondContract
  /-- Raised by `CLIENT.RHR`: the transport returned more bytes than the buffer holds (R173). -/
  | readAnswerBeyondContract
  deriving DecidableEq, Repr

/-- `ERR` of the last operation; `none` where there is no value (R28, R35). -/
def State.err (s : State) : Option Err := s.out.map Completion.err

/-- `VALID` of the last operation; a value only after a completed `CRC.VERIFY` (R27, R36). -/
def State.valid (s : State) : Option Bool :=
  match s.out with
  | some { err := _, data := some (.validity v) } => some v
  | _ => none

/-- `NREG`, the number of registers in `REGS` (R26). -/
def State.nreg (s : State) : Option Nat := s.regs.map List.length

/-- `RXN`, the actual length (R25). -/
def State.rxn (s : State) : Nat := s.rxb.length

/-- The machine right after reset (R35, R230). The operand registers, `CRC`, `BI`, `K`, `TXF`, `RXB` and
`RXN` are unspecified there and zero or empty here (log entry 3); nothing is issued or answered yet. -/
def State.reset : State :=
  { cfg := Cfg.default
    addr := 0#8, fc := 0#8, start := 0#16, count := 0#16, reqcnt := 0#16, input := []
    crc := 0#16, bi := 0, k := 0
    txf := List.replicate 8 0#8, rxb := []
    regs := none
    cst := .idle
    running := none
    out := none
    host := []
    flushAnswers := [], writeAnswers := [], readAnswers := []
    bus := [] }

end Sys2Proof.Machine
end

