-- ==== Sys2Proof/Machine/Ops.lean ====
section
/-! DEFINITION. The shared operations over State: issue of an operation and loading of its operand registers (spec/10_state.md rules R20, R21), the checksum computation on the engine's registers (spec/40_crc_engine.md rule R112), the two ways an operation ends (spec/60_exceptions.md rules R200, R211), the buffers (rules R24 to R26), and the transport transactions (spec/43_modbus_client.md rules R170 to R173). -/

namespace Sys2Proof.Machine

/-- Issue: the block runs one operation at a time; an issue while one runs has no meaning (R20, R236). -/
def whenFree (s : State) (go : Host.Outcome State Fault Refusal) : Host.Outcome State Fault Refusal :=
  match s.running with
  | none => go
  | some _ => .refused .issuedWhileBusy

/-- The operand of `CRC.COMPUTE` and `CRC.VERIFY` (R21). -/
def State.loadInput (s : State) (input : List Byte) : State := { s with input := input }

/-- The operands of `FRAME.BUILD` (R21). -/
def State.loadBuild (s : State) (addr fc : Byte) (start count : U16) : State :=
  { s with addr := addr, fc := fc, start := start, count := count }

/-- The operands of `FRAME.DECODE`: `RXB[0:RXN]` is the operand `IN` (R21, R25). -/
def State.loadDecode (s : State) (input : List Byte) (reqcnt : U16) : State :=
  { s with input := input, reqcnt := reqcnt, rxb := input }

/-- The operands of `CLIENT.RHR`: `CST <- Idle`, and the operation's outputs have no value yet (R21, R36,
R174). `RXB` and `RXN` keep what an earlier operation left there until the read answers, and so at the end
of an exchange that does not get to its read: DESIGN CHOICE, unsafe, the spec leaves it open (log entry 25). -/
def State.loadExchange (s : State) (addr : Byte) (start count : U16) : State :=
  { s with addr := addr, start := start, count := count, cst := .idle, regs := none, out := none }

/-- A checksum computation over `bytes`, on the engine's registers after the last shift step of the last
byte (R112, R22); `BI` and `K` are dead then and hold free values (R23, log entry 5). -/
def State.runChecksum (s : State) (bytes : List Byte) : State :=
  { s with
    crc := crc16 bytes, bi := Config.deadByteIndex bytes, k := Config.deadBitCounter bytes }

/-- The end of an operation that completed: `ERR = None` and the data result (R200). -/
def State.complete (s : State) (r : Result) : State :=
  { s with running := none, out := some { err := .noError, data := some r } }

/-- `raise E`, the block's only exception entry: the operation ends at once with its error class and no
data; no state is saved, no mode changes, control goes nowhere (R13, R206, R211). The return from it is
the issue of the next operation, which restores nothing (R212): `whenFree`. -/
def State.raise (s : State) (e : Err) : State :=
  { s with running := none, out := some { err := e, data := none } }

/-- `TXF <- f` (R24). -/
def State.putRequest (s : State) (f : List Byte) : State := { s with txf := f }

/-- The end of a decode: the registers, or the error and no registers at all (R26, R206). -/
def State.deliver (s : State) (v : Except Err (List U16)) : State :=
  match v with
  | .ok regs => { s with regs := some regs }.complete (.registers regs)
  | .error e => { s with regs := none }.raise e

/-- The builder's steps on operands already in their registers, with function code `fc` (R140). -/
def State.buildRequest (s : State) (fc : Byte) : State :=
  (s.runChecksum (requestPrefix s.addr fc s.start s.count)).putRequest
    (requestFrame s.addr fc s.start s.count)

/-- The decoder's steps on the bytes received (R153); below 5 bytes no checksum is computed (R154). -/
def State.decodeResponse (s : State) (f : List Byte) (reqcnt : U16) : State :=
  let loaded := s.loadDecode f reqcnt
  let summed := if f.length < 5 then loaded else loaded.runChecksum (payloadPrefix f)
  summed.deliver (decodeVerdict s.cfg.checkByteCount f)

/-- The verifier's steps (R116); below 2 bytes no checksum is computed (R117). -/
def State.verifyFrame (s : State) (f : List Byte) : State :=
  match verifyVerdict f with
  | .error e => (s.loadInput f).raise e
  | .ok v => ((s.loadInput f).runChecksum (payloadPrefix f)).complete (.validity v)

/-- The block issues a transport transaction (R170, R61). -/
def State.transact (s : State) (t : Transaction) : State := { s with bus := s.bus ++ [t] }

/-- The block waits for the answer to a transaction (R170, R187). -/
def State.await (s : State) (w : Wait) : State := { s with running := some w }

/-- A flush has been answered. -/
def State.flushed (s : State) (rest : List Status) : State :=
  { s with running := none, flushAnswers := rest }

/-- A write has been answered. -/
def State.written (s : State) (rest : List WriteAnswer) : State :=
  { s with running := none, writeAnswers := rest }

/-- `CST <- AwaitingResponse` (R184). -/
def State.awaitResponse (s : State) : State := { s with cst := .awaitingResponse }

/-- A read has been answered: `RXB[0:len(b)] <- b`, `RXN <- len(b)`, `CST <- Idle`, whatever came (R174, R184). -/
def State.received (s : State) (b : List Byte) (rest : List ReadAnswer) : State :=
  { s with running := none, readAnswers := rest, rxb := b, cst := .idle }

end Sys2Proof.Machine
end

