-- ==== Sys2Proof/Machine/CrcUnit.lean ====
section
/-! DEFINITION. The CRC Engine's operations CRC.COMPUTE and CRC.VERIFY (spec/40_crc_engine.md rules R115 to R117). -/

namespace Sys2Proof.Machine

/-- `CRC.COMPUTE IN`: the two checksum bytes of the whole input, low byte first; it raises nothing (R115). -/
def execCrcCompute (input : List Byte) (s : State) : Host.Outcome State Fault Refusal :=
  whenFree s
    (.next (((s.loadInput input).runChecksum input).complete
      (.checksum (lo8 (crc16 input)) (hi8 (crc16 input)))))

/-- `CRC.VERIFY IN`: `VALID`, or `MalformedFrameError` below 2 bytes (R116, R117). -/
def execCrcVerify (input : List Byte) (s : State) : Host.Outcome State Fault Refusal :=
  whenFree s (.next (s.verifyFrame input))

end Sys2Proof.Machine
end

