-- ==== Sys2Proof/Machine/FrameBuilder.lean ====
section
/-! DEFINITION. The Frame Builder's operation FRAME.BUILD (spec/41_frame_builder.md rules R140 to R145). -/

namespace Sys2Proof.Machine

/-- `FRAME.BUILD ADDR, FC, START, COUNT`: the 8-byte request frame; it validates nothing and raises nothing (R140, R142). -/
def execFrameBuild (addr fc : Byte) (start count : U16) (s : State) : Host.Outcome State Fault Refusal :=
  whenFree s
    (.next (((s.loadBuild addr fc start count).buildRequest fc).complete
      (.frame (requestFrame addr fc start count))))

end Sys2Proof.Machine
end

