-- ==== Sys2Proof/Machine/ModbusClient.lean ====
section
/-! DEFINITION. The Modbus Client's operation CLIENT.RHR (spec/43_modbus_client.md rules R174 to R187): the exchange as three transactions, each of which waits for the transport's answer, and its error exits. The answers are taken from State in order; where one is missing the operation stays running and `resumeExchange` goes on from there (log entries 1 and 2). -/

namespace Sys2Proof.Machine

/-- Step 3 and after, once the read is issued: an error ends the operation and its bytes are discarded,
otherwise exactly the bytes read go to the decoder along with `COUNT` (R173, R181, R182, R183). -/
def afterRead (s : State) : Host.Outcome State Fault Refusal :=
  match s.readAnswers with
  | [] => .next (s.await .read)
  | a :: rest =>
    if responseLength s.count < a.bytes.length then .refused .readAnswerBeyondContract
    else
      match a.status with
      | .error => .next ((s.received a.bytes rest).raise .transportRead)
      | .ok => .next ((s.received a.bytes rest).decodeResponse a.bytes s.count)

/-- Step 2, once the write is issued: an error or a short write ends the operation and no read is issued
(R172, R179); otherwise `CST <- AwaitingResponse` and one read of the whole response (R180, R184). -/
def afterWrite (s : State) : Host.Outcome State Fault Refusal :=
  match s.writeAnswers with
  | [] => .next (s.await .write)
  | a :: rest =>
    if requestLength < a.accepted then .refused .writeAnswerBeyondContract
    else if a.status = .error ∨ a.accepted < requestLength then
      .next ((s.written rest).raise .transportWrite)
    else
      afterRead ((s.written rest).awaitResponse.transact (.read (responseLength s.count)))

/-- Step 2: build the request with function code 3 and offer it whole in one write (R178). -/
def buildAndWrite (s : State) : Host.Outcome State Fault Refusal :=
  afterWrite ((s.buildRequest 0x03#8).transact
    (.write (requestFrame s.addr 0x03#8 s.start s.count)))

/-- Step 1, once the flush is issued: a failed flush ends the operation or is ignored (R177, R207). -/
def afterFlush (s : State) : Host.Outcome State Fault Refusal :=
  match s.flushAnswers with
  | [] => .next (s.await .flush)
  | a :: rest =>
    if a = .error ∧ s.cfg.flushErrAborts = true then .next ((s.flushed rest).raise .transportFlush)
    else buildAndWrite (s.flushed rest)

/-- `CLIENT.RHR ADDR, START, COUNT`: one exchange (R174); a response that does not fit the buffer is
refused before anything is done (R53). -/
def execClientRhr (addr : Byte) (start count : U16) (s : State) : Host.Outcome State Fault Refusal :=
  whenFree s
    (if s.cfg.rxCap < responseLength count then .refused .responseExceedsCapacity
    else if s.cfg.flushEn = true then
      afterFlush ((s.loadExchange addr start count).transact .flush)
    else buildAndWrite (s.loadExchange addr start count))

/-- A waiting `CLIENT.RHR` goes on when the transport has answered; without an answer it has no step (R187). -/
def resumeExchange (w : Wait) (s : State) : Host.Outcome State Fault Refusal :=
  match w with
  | .flush => if s.flushAnswers = [] then .fault (.transportDoesNotAnswer .flush) else afterFlush s
  | .write => if s.writeAnswers = [] then .fault (.transportDoesNotAnswer .write) else afterWrite s
  | .read => if s.readAnswers = [] then .fault (.transportDoesNotAnswer .read) else afterRead s

end Sys2Proof.Machine
end

