-- ==== Sys2Proof/Machine/ResponseDecoder.lean ====
section
/-! DEFINITION. The Response Decoder's operation FRAME.DECODE (spec/42_response_decoder.md rules R153 to R164). -/

namespace Sys2Proof.Machine

/-- `FRAME.DECODE IN, REQCNT`: the registers, or the first error; no step reads `REQCNT` (R153, R160). -/
def execFrameDecode (input : List Byte) (reqcnt : U16) (s : State) : Host.Outcome State Fault Refusal :=
  whenFree s (.next (s.decodeResponse input reqcnt))

end Sys2Proof.Machine
end

