-- ==== Sys2Proof/Machine/WireFrames.lean ====
section
/-! DEFINITION. The opcode table's rows that are wire formats: the meaning of a frame that is handed to the block as it stands, by the operation that takes a frame of that format as its operand (log entry 8). A request is never parsed (spec/30_encoding.md rule R84) and can only be verified (spec/40_crc_engine.md rules R116, R118); a response is decoded (spec/42_response_decoder.md rule R153). Function code 16 has no operation (spec/30_encoding.md rule R85). -/

namespace Sys2Proof.Machine

/-- `REQ.FC03`: the 8 bytes of the frame are verified; `VALID` says whether its trailer is the function
of the other 48 bits that R81 makes it. -/
def execReqFc03 (addr : Byte) (start count : U16) (crcLo crcHi : Byte) (s : State) :
    Host.Outcome State Fault Refusal :=
  whenFree s (.next (s.verifyFrame (reqFc03Bytes addr start count crcLo crcHi)))

/-- `RSP.FC03`: the bytes of the frame are decoded; no count was requested, and `REQCNT` keeps its value. -/
def execRspFc03 (addr byteCount : Byte) (regs : List U16) (crcLo crcHi : Byte) (s : State) :
    Host.Outcome State Fault Refusal :=
  whenFree s (.next (s.decodeResponse (rspFc03Bytes addr byteCount regs crcLo crcHi) s.reqcnt))

/-- `REQ.FC16`: "a declared constant with no frame layout, no operation and no rule in this block" (R85). -/
def execReqFc16 (_addr _d2 _d3 _d4 _d5 _crcLo _crcHi : Byte) (_s : State) :
    Host.Outcome State Fault Refusal :=
  .refused .functionCode16Reserved

end Sys2Proof.Machine
end

