-- ==== Sys2Proof/Machine/Dispatch.lean ====
section
/-! DEFINITION. One arm for each constructor of Instr. -/

namespace Sys2Proof.Machine

def exec (i : Instr) (s : State) : Host.Outcome State Fault Refusal :=
  match i with
  | .crcCompute input => Sys2Proof.Machine.execCrcCompute input s
  | .crcVerify input => Sys2Proof.Machine.execCrcVerify input s
  | .frameBuild addr fc start count => Sys2Proof.Machine.execFrameBuild addr fc start count s
  | .frameDecode input reqcnt => Sys2Proof.Machine.execFrameDecode input reqcnt s
  | .clientRhr addr start count => Sys2Proof.Machine.execClientRhr addr start count s
  | .reqFc03 addr start count crcLo crcHi => Sys2Proof.Machine.execReqFc03 addr start count crcLo crcHi s
  | .rspFc03 addr byteCount regs crcLo crcHi => Sys2Proof.Machine.execRspFc03 addr byteCount regs crcLo crcHi s
  | .reqFc16 addr d2 d3 d4 d5 crcLo crcHi => Sys2Proof.Machine.execReqFc16 addr d2 d3 d4 d5 crcLo crcHi s

end Sys2Proof.Machine
end

