-- ==== Sys2Proof/Machine/Step.lean ====
section
/-! DEFINITION. One step of the machine: a waiting exchange goes on, or the next word the host issues runs (spec/10_state.md rules R20, R29; spec/70_reset_and_hazards.md rule R236). There is no program counter: an execution of the block is the list of operations the host issued (R29). -/

namespace Sys2Proof.Machine

/-- One step. An idle block with nothing issued waits and is unchanged (R215, log entry 11). -/
def step (s : State) : Host.Outcome State Fault Refusal :=
  match s.running with
  | some w => resumeExchange w s
  | none =>
    match s.host with
    | [] => .next s
    | word :: rest =>
      match decode word with
      | .error e => .refused (.undecodable e)
      | .ok i => exec i { s with host := rest }

/-- `s` with that opcode-table word as the next one the host issues, and no operation running (so
`CST = Idle`, R30), so that the next step runs it (log entry 19). -/
def State.withFetchWord (s : State) (nbits w : Nat) : State :=
  { s with running := none, cst := .idle, host := tableIssueWord nbits w :: s.host }

end Sys2Proof.Machine
end

