-- ==== Sys2Proof/Safety.lean ====
section
/-! DEFINITION. The terms claims are stated in: the invariant of the machine, what the environment (host and transport) may do between two steps, the states a run can reach with it, and the transactions and flush answers of one exchange. -/

namespace Sys2Proof.Machine

/-- What holds of every state of a run. -/
structure State.Inv (s : State) : Prop where
  /-- `CFG` has a legal value (R32). -/
  cfgLegal : s.cfg.Legal
  /-- `TXF` is always exactly 8 bytes (R52). -/
  txfLength : s.txf.length = requestLength
  /-- `CST = AwaitingResponse` exactly while a `CLIENT.RHR` waits for its read (R30, R184). -/
  cstAwaiting : s.cst = .awaitingResponse ↔ s.running = some .read
  /-- While an operation runs, no result of it has a value (R28, R36). -/
  runningHasNoOutput : s.running ≠ none → s.out = none ∧ s.regs = none
  /-- An operation that ends with an error delivers no data, and only such a one (R28, R206). -/
  errorHasNoData : ∀ c, s.out = some c → (c.err ≠ .noError ↔ c.data = none)
  /-- Delivered registers are those in `REGS` (R26). -/
  registersDelivered : ∀ c regs, s.out = some c → c.data = some (.registers regs) → s.regs = some regs
  /-- A delivered frame is `TXF` (R24). -/
  frameDelivered : ∀ c f, s.out = some c → c.data = some (.frame f) → s.txf = f
  /-- A running exchange has room for its response (R53). -/
  responseFits : s.running ≠ none → responseLength s.count ≤ s.cfg.rxCap
  /-- From the write on, `TXF` is the request of the running exchange (R178). -/
  requestBuilt : s.running = some .write ∨ s.running = some .read →
    s.txf = requestFrame s.addr 0x03#8 s.start s.count

/-- What the environment may change between two steps: the words the host will issue and the answers the
transport will give, and nothing of the block (R20, R34, R170). -/
def State.withEnvironment (s : State) (host : List IssueWord) (fl : List Status)
    (wr : List WriteAnswer) (rd : List ReadAnswer) : State :=
  { s with host := host, flushAnswers := fl, writeAnswers := wr, readAnswers := rd }

/-- The states of the runs from reset, with any legal `CFG` and any behaviour of host and transport. -/
inductive Reachable : State → Prop where
  | reset (cfg : Cfg) (h : cfg.Legal) : Reachable { State.reset with cfg := cfg }
  | environment {s : State} (h : Reachable s) (host : List IssueWord) (fl : List Status)
      (wr : List WriteAnswer) (rd : List ReadAnswer) : Reachable (s.withEnvironment host fl wr rd)
  | step {s t : State} (h : Reachable s) (hs : Sys2Proof.Machine.step s = .next t) : Reachable t

/-- The transactions of a whole exchange, in order: the flush if it is enabled, one write, one read (R62, R185). -/
def exchangeTransactions (cfg : Cfg) (addr : Byte) (start count : U16) : List Transaction :=
  (if cfg.flushEn = true then [.flush] else []) ++
    [.write (requestFrame addr 0x03#8 start count), .read (responseLength count)]

/-- Step 1 of an exchange lets it go on: no flush is enabled, or it is answered and does not abort (R176, R177). -/
def State.FlushPasses (s : State) : Prop :=
  s.cfg.flushEn = true →
    ∃ a rest, s.flushAnswers = a :: rest ∧ (a = .ok ∨ s.cfg.flushErrAborts = false)

/-- The flush answers that remain after step 1. -/
def State.flushRest (s : State) : List Status :=
  if s.cfg.flushEn = true then s.flushAnswers.tail else s.flushAnswers

/-- The exchange gets as far as its read, which is answered by `r`: step 1 passes and the write is answered
without error with all 8 bytes (R176 to R180). -/
def State.ReadAnsweredBy (s : State) (r : ReadAnswer) : Prop :=
  s.FlushPasses ∧ ∃ wrest rrest,
    s.writeAnswers = { accepted := requestLength, status := .ok } :: wrest ∧ s.readAnswers = r :: rrest

/-- The transport's answers to the transactions of an exchange keep its contract (R172, R173). -/
structure KeepsContract (count : U16) (w : WriteAnswer) (r : ReadAnswer) : Prop where
  write : w.accepted ≤ requestLength
  read : r.bytes.length ≤ responseLength count

end Sys2Proof.Machine
end

