-- ==== Sys2Proof/Certificates/Slice0/Obligations.lean ====
section
/-! DEFINITION. The statements for the provers, by the section files of the spec: reset and the invariant, the encodings, the checksum and its operations, the builder, the decoder, the client, the errors, and the whole machine. Where a statement gives a next state whole, the fields it does not name are its frame; `BI` and `K` are left open there, since the spec gives them no value after a computation (log entry 5). That a register keeps its value where the spec calls it dead, `RXB` and `RXN` in an exchange before its read among them, is the model's choice (log entry 25). -/

open Sys2Proof
open Sys2Proof.Machine

/-! ## Reset, invariant, steps -/

/-- R35 (the spec's decision D12): `CST` is Idle, `CFG` has its defaults, no operation is running, and
`REGS`, `NREG`, `VALID` and `ERR` have no value. The elements R35 calls unspecified are not mentioned. That
"no value" is `none` and that `CFG` is a field of State are the model's readings (log entries 4 and 13). -/
def Obligations.ResetStateIsTheSpecs : Prop :=
  State.reset.cst = .idle ∧ State.reset.running = none ∧
  State.reset.cfg.flushEn = true ∧ State.reset.cfg.flushErrAborts = true ∧
  State.reset.cfg.checkByteCount = false ∧ State.reset.cfg.rxCap = 131075 ∧
  State.reset.regs = none ∧ State.reset.nreg = none ∧
  State.reset.valid = none ∧ State.reset.err = none

/-- The invariant holds at reset, for every legal `CFG` (that `TXF` has 8 bytes there is log entry 3). -/
def Obligations.ResetMeetsInvariant : Prop :=
  ∀ cfg : Cfg, cfg.Legal → State.Inv { State.reset with cfg := cfg }

/-- The invariant is kept by every step, from every state that meets it. -/
def Obligations.StepKeepsInvariant : Prop :=
  ∀ s t : State, s.Inv → step s = .next t → t.Inv

/-- Every state a run from reset can reach, whatever the host issues and the transport answers, meets the
invariant. -/
def Obligations.ReachableStatesMeetInvariant : Prop :=
  ∀ s : State, Reachable s → s.Inv

/-- One step: a running exchange is resumed; an idle block with nothing issued is unchanged (log entry 11);
an issued word that decodes runs as the instruction it is, on the state without that word (the list of
issued words is log entry 19); one that does not decode is refused by name (R88, log entry 21). -/
def Obligations.StepRunsTheIssuedInstruction : Prop :=
  ∀ s : State,
    (∀ w, s.running = some w → step s = resumeExchange w s) ∧
    (s.running = none → s.host = [] → step s = .next s) ∧
    (∀ word rest i, s.running = none → s.host = word :: rest → decode word = .ok i →
      step s = exec i { s with host := rest }) ∧
    (∀ word rest e, s.running = none → s.host = word :: rest → decode word = .error e →
      step s = .refused (.undecodable e))

/-! ## Encodings -/

/-- Decoding an encoded well-formed instruction gives it back, with every operand at every value. -/
def Obligations.DecodeOfEncode : Prop :=
  ∀ i : Instr, WellFormed i → decode (encode i) = .ok i

/-- Each word has at most one meaning: what decodes is the encoding of what it decodes to. -/
def Obligations.EncodeOfDecode : Prop :=
  ∀ (w : IssueWord) (i : Instr), decode w = .ok i → encode i = w

/-- R86 (the spec's decision D3): the operation codes select the five operations, whatever the operands;
`0x05` to `0xFF` are reserved and refused. The bytes of the operands are log entry 6. -/
def Obligations.OperationCodesSelectOperations : Prop :=
  (∀ input, decode { fmt := .cmd, bytes := 0x00#8 :: input } = .ok (.crcCompute input)) ∧
  (∀ input, decode { fmt := .cmd, bytes := 0x01#8 :: input } = .ok (.crcVerify input)) ∧
  (∀ addr fc sh sl ch cl, decode { fmt := .cmd, bytes := [0x02#8, addr, fc, sh, sl, ch, cl] } =
    .ok (.frameBuild addr fc ((sh.setWidth 16 <<< 8) ||| sl.setWidth 16)
      ((ch.setWidth 16 <<< 8) ||| cl.setWidth 16))) ∧
  (∀ input rh rl, decode { fmt := .cmd, bytes := 0x03#8 :: (input ++ [rh, rl]) } =
    .ok (.frameDecode input ((rh.setWidth 16 <<< 8) ||| rl.setWidth 16))) ∧
  (∀ addr sh sl ch cl, decode { fmt := .cmd, bytes := [0x04#8, addr, sh, sl, ch, cl] } =
    .ok (.clientRhr addr ((sh.setWidth 16 <<< 8) ||| sl.setWidth 16)
      ((ch.setWidth 16 <<< 8) ||| cl.setWidth 16))) ∧
  (∀ (op : Byte) (rest : List Byte) (s : State) (more : List IssueWord), 5 ≤ op.toNat →
    s.running = none → s.host = { fmt := .cmd, bytes := op :: rest } :: more →
    step s = .refused (.undecodable (.reservedOperationCode op)))

/-- Words written out from the spec's encodings: the operations of programs P1, P2 and P5, the request
frame of S2 bit by bit, the response frame of S4a, and a frame of function code 16. -/
def Obligations.SpecWordsDecode : Prop :=
  decode { fmt := .cmd, bytes := [0x00#8, 0x01#8, 0x03#8, 0x00#8, 0x00#8, 0x00#8, 0x08#8] } =
    .ok (.crcCompute [0x01#8, 0x03#8, 0x00#8, 0x00#8, 0x00#8, 0x08#8]) ∧
  decode { fmt := .cmd, bytes := [0x01#8, 0x44#8] } = .ok (.crcVerify [0x44#8]) ∧
  decode { fmt := .cmd, bytes := [0x02#8, 0x01#8, 0x03#8, 0x00#8, 0x00#8, 0x00#8, 0x08#8] } =
    .ok (.frameBuild 0x01#8 0x03#8 0x0000#16 0x0008#16) ∧
  decode { fmt := .cmd, bytes := [0x03#8, 0x01#8, 0x03#8, 0x06#8, 0xAE#8, 0x00#8, 0x03#8] } =
    .ok (.frameDecode [0x01#8, 0x03#8, 0x06#8, 0xAE#8] 0x0003#16) ∧
  decode { fmt := .cmd, bytes := [0x04#8, 0x01#8, 0x00#8, 0x00#8, 0x00#8, 0x03#8] } =
    .ok (.clientRhr 0x01#8 0x0000#16 0x0003#16) ∧
  decode { fmt := .req8, bytes := [0b00000001#8, 0b00000011#8, 0b00000000#8, 0b00000000#8,
      0b00000000#8, 0b00001000#8, 0b01000100#8, 0b00001100#8] } =
    .ok (.reqFc03 0x01#8 0x0000#16 0x0008#16 0x44#8 0x0C#8) ∧
  decode { fmt := .rspv, bytes := [0x01#8, 0x03#8, 0x06#8, 0xAE#8, 0x41#8, 0x56#8, 0x52#8, 0x43#8,
      0x40#8, 0x84#8, 0x6D#8] } =
    .ok (.rspFc03 0x01#8 0x06#8 [0xAE41#16, 0x5652#16, 0x4340#16] 0x84#8 0x6D#8) ∧
  decode { fmt := .req8, bytes := [0xFF#8, 0x10#8, 0x12#8, 0x34#8, 0xFF#8, 0xFF#8, 0x90#8, 0xD1#8] } =
    .ok (.reqFc16 0xFF#8 0x12#8 0x34#8 0xFF#8 0xFF#8 0x90#8 0xD1#8)

/-! ## The checksum -/

/-- R110: the shift step bit by bit: bit 15 comes from the constant alone, bits 14 to 0 are the next higher
bit, and bits 15, 13 and 0 are inverted exactly when the old bit 0 was set; with the rule's examples. -/
def Obligations.ShiftStepBitByBit : Prop :=
  (∀ (r : U16) (i : Nat), i < 16 →
    (crcBit r).getLsbD i =
      ((r.getLsbD (i + 1)) ^^ (r.getLsbD 0 && (i == 15 || i == 13 || i == 0)))) ∧
  crcBit 0xFFFE#16 = 0x7FFF#16 ∧ crcBit 0x7FFF#16 = 0x9FFE#16 ∧ crcBit 0x0000#16 = 0x0000#16 ∧
  crcBit 0x0001#16 = 0xA001#16

/-- R111: an input byte is XORed into the low byte alone, and eight shift steps follow; with the rule's
example. -/
def Obligations.InputByteStep : Prop :=
  (∀ (r : U16) (b : Byte), ∃ x : U16, hi8 x = hi8 r ∧ lo8 x = lo8 r ^^^ b ∧
    crcByte r b = Nat.iterate crcBit 8 x) ∧
  (hi8 0xFFFE#16 = 0xFF#8 ∧ lo8 0xFFFE#16 = 0xFE#8 ∧ crcByte 0xFFFF#16 0x01#8 = 0x807E#16 ∧
   [1, 2, 3, 4, 5, 6, 7, 8].map (fun n => Nat.iterate crcBit n 0xFFFE#16) =
     [0x7FFF#16, 0x9FFE#16, 0x4FFF#16, 0x87FE#16, 0x43FF#16, 0x81FE#16, 0x40FF#16, 0x807E#16])

/-- The register-level engine of R112 (`CRC <- 0xFFFF`, bytes in ascending offset, the XOR before the eight
shift steps of each byte) computes the fold: after `8*j` shift steps it holds the checksum of the first `j`
bytes, at every byte boundary and at the end. -/
def Obligations.EngineComputesChecksum : Prop :=
  ∀ (bytes : List Byte) (j : Nat), j ≤ bytes.length →
    engineRun bytes (8 * j) engineStart = { crc := crc16 (bytes.take j), bi := j, k := 0 }

/-- R113: the trailer is low byte first, and its inverse on two bytes assembles the value; with the rule's
example. -/
def Obligations.TrailerIsLowByteFirst : Prop :=
  (∀ v : U16, trailer v = [v.extractLsb' 0 8, v.extractLsb' 8 8]) ∧
  (∀ t0 t1 : Byte, trailer ((t1.setWidth 16 <<< 8) ||| t0.setWidth 16) = [t0, t1]) ∧
  (∀ (v : U16) (t0 t1 : Byte), trailer v = [t0, t1] → (t1.setWidth 16 <<< 8) ||| t0.setWidth 16 = v) ∧
  trailer 0x0C44#16 = [0x44#8, 0x0C#8]

/-- R121 (the spec's own inference): the corner values; leading zero bytes change the value. -/
def Obligations.ChecksumCornerValues : Prop :=
  crc16 [] = 0xFFFF#16 ∧ crc16 [0x00#8] = 0x40BF#16 ∧ crc16 [0x01#8] = 0x807E#16 ∧
  crc16 [0xFF#8] = 0x00FF#16 ∧ crc16 [0x00#8, 0x00#8] = 0xB001#16 ∧
  crc16 [0xFF#8, 0xFF#8] = 0x0000#16 ∧ crc16 [0x01#8, 0x03#8] = 0x2140#16 ∧
  crc16 [0x01#8, 0x03#8, 0x00#8, 0x00#8, 0x00#8, 0x08#8] = 0x0C44#16 ∧
  crc16 [] ≠ crc16 [0x00#8]

/-- `CRC.COMPUTE` completes on every input with the two checksum bytes of the whole input, low byte first;
it writes its operand register, the engine's registers and the output, and nothing else. -/
def Obligations.CrcComputeCompletes : Prop :=
  ∀ (input : List Byte) (s : State), s.running = none →
    ∃ bi k, exec (.crcCompute input) s = .next { s with
      input := input, crc := crc16 input, bi := bi, k := k,
      out := some { err := .noError,
                    data := some (.checksum ((crc16 input).extractLsb' 0 8)
                                            ((crc16 input).extractLsb' 8 8)) } }

/-- `CRC.VERIFY` completes on every input of at least 2 bytes; `VALID` compares the bytes at `n-2` and
`n-1` with the low and the high byte of the checksum of the bytes before them. -/
def Obligations.CrcVerifyCompletes : Prop :=
  ∀ (input : List Byte) (s : State), s.running = none → 2 ≤ input.length →
    ∃ bi k lo hi, input[input.length - 2]? = some lo ∧ input[input.length - 1]? = some hi ∧
      exec (.crcVerify input) s = .next { s with
        input := input, crc := crc16 (input.take (input.length - 2)), bi := bi, k := k,
        out := some { err := .noError,
                      data := some (.validity (decide
                        (lo = (crc16 (input.take (input.length - 2))).extractLsb' 0 8 ∧
                         hi = (crc16 (input.take (input.length - 2))).extractLsb' 8 8))) } }

/-- R117: with 0 or 1 bytes `CRC.VERIFY` ends with `MalformedFrameError`, and the engine's registers are as
before the operation. -/
def Obligations.CrcVerifyGuardsShortInput : Prop :=
  ∀ (input : List Byte) (s : State), s.running = none → input.length < 2 →
    exec (.crcVerify input) s = .next { s with
      input := input, out := some { err := .malformedFrame, data := none } }

/-- R119 (the spec's own inference): what `CRC.COMPUTE` gives makes any prefix a valid frame, any other two
bytes make it invalid, and changing one bit anywhere in a valid frame makes it invalid. -/
def Obligations.ComputeThenVerify : Prop :=
  (∀ (p : List Byte) (s : State), s.running = none →
    ∃ t lo hi, exec (.crcCompute p) s = .next t ∧
      t.out = some { err := .noError, data := some (.checksum lo hi) } ∧
      (∃ u, exec (.crcVerify (p ++ [lo, hi])) s = .next u ∧ u.valid = some true) ∧
      (∀ a b, [a, b] ≠ [lo, hi] →
        ∃ u, exec (.crcVerify (p ++ [a, b])) s = .next u ∧ u.valid = some false)) ∧
  (∀ (f : List Byte) (s t : State) (i j : Nat) (b : Byte), s.running = none →
    exec (.crcVerify f) s = .next t → t.valid = some true → f[i]? = some b → j < 8 →
    ∃ u, exec (.crcVerify (f.set i (b ^^^ (1#8 <<< j)))) s = .next u ∧ u.valid = some false)

/-- R120 (the spec's own inference): the checksum of a whole valid frame, trailer included, is zero, and
`CRC.COMPUTE` of it gives `00 00`. -/
def Obligations.ValidFrameHasZeroResidue : Prop :=
  ∀ (f : List Byte) (s t : State), s.running = none → exec (.crcVerify f) s = .next t →
    t.valid = some true →
    crc16 f = 0x0000#16 ∧
    ∃ u, exec (.crcCompute f) s = .next u ∧
      u.out = some { err := .noError, data := some (.checksum 0x00#8 0x00#8) }

/-- R122: both CRC operations depend on `IN` alone and touch neither the transport, `CST`, `TXF`, `RXB` nor
`REGS`. -/
def Obligations.CrcOperationsArePure : Prop :=
  ∀ (input : List Byte) (i : Instr), i = .crcCompute input ∨ i = .crcVerify input →
    ∀ s s' : State, s.running = none → s'.running = none →
      ∃ t t', exec i s = .next t ∧ exec i s' = .next t' ∧ t.out = t'.out ∧
        t.running = none ∧ t.bus = s.bus ∧ t.flushAnswers = s.flushAnswers ∧
        t.writeAnswers = s.writeAnswers ∧ t.readAnswers = s.readAnswers ∧
        t.cst = s.cst ∧ t.txf = s.txf ∧ t.rxb = s.rxb ∧ t.regs = s.regs

/-! ## The builder -/

/-- `FRAME.BUILD` completes for all operands with the 8 bytes of the request frame in `TXF` and as its
result; it writes its operand registers, the engine's registers, `TXF` and the output, and nothing else. -/
def Obligations.FrameBuildCompletes : Prop :=
  ∀ (addr fc : Byte) (start count : U16) (s : State), s.running = none →
    ∃ bi k p v, p = [addr, fc, start.extractLsb' 8 8, start.extractLsb' 0 8,
        count.extractLsb' 8 8, count.extractLsb' 0 8] ∧
      v = crc16 p ∧
      exec (.frameBuild addr fc start count) s = .next { s with
        addr := addr, fc := fc, start := start, count := count, crc := v, bi := bi, k := k,
        txf := p ++ [v.extractLsb' 0 8, v.extractLsb' 8 8],
        out := some { err := .noError,
                      data := some (.frame (p ++ [v.extractLsb' 0 8, v.extractLsb' 8 8])) } }

/-- R54: the offsets of a request frame, as `FRAME.BUILD` leaves it in `TXF`, and as `CLIENT.RHR` does once
its flush has passed, with function code 3. -/
def Obligations.RequestFrameMap : Prop :=
  ∀ (addr fc : Byte) (start count : U16) (s t : State),
    (exec (.frameBuild addr fc start count) s = .next t ∨
      (exec (.clientRhr addr start count) s = .next t ∧ fc = 0x03#8 ∧ s.FlushPasses)) →
    memRead1 t.txf 0 = some addr ∧ memRead1 t.txf 1 = some fc ∧
    memRead1 t.txf 2 = some (hi8 start) ∧ memRead1 t.txf 3 = some (lo8 start) ∧
    memRead1 t.txf 4 = some (hi8 count) ∧ memRead1 t.txf 5 = some (lo8 count) ∧
    memRead1 t.txf 6 = some (lo8 (crc16 (t.txf.take 6))) ∧
    memRead1 t.txf 7 = some (hi8 (crc16 (t.txf.take 6)))

/-- The builder written with the memory primitives gives the same frame: the three one-byte and two
two-byte writes of R140 in their order, into any 8-byte buffer, all defined. -/
def Obligations.BuilderByMemoryWrites : Prop :=
  ∀ (b : List Byte) (addr fc : Byte) (start count : U16), b.length = 8 →
    ∃ b1 b2 b3 b4 b5 b6, memWrite1 b 0 addr = some b1 ∧ memWrite1 b1 1 fc = some b2 ∧
      memWrite2 b2 2 start = some b3 ∧ memWrite2 b3 4 count = some b4 ∧
      memWrite1 b4 6 (lo8 (crc16 (b4.take 6))) = some b5 ∧
      memWrite1 b5 7 (hi8 (crc16 (b4.take 6))) = some b6 ∧
      b6 = requestFrame addr fc start count

/-- R141: the result is exactly 8 bytes for all operands and always passes `CRC.VERIFY`. -/
def Obligations.BuiltFrameIsEightBytesAndValid : Prop :=
  ∀ (addr fc : Byte) (start count : U16) (s : State), s.running = none →
    ∃ t u, exec (.frameBuild addr fc start count) s = .next t ∧ t.txf.length = 8 ∧
      t.out = some { err := .noError, data := some (.frame t.txf) } ∧
      exec (.crcVerify t.txf) s = .next u ∧ u.valid = some true

/-- R143 (the spec's decision D22): the function code is an operand: two frames that differ in it alone
agree in every byte before the trailer but the one at offset 1; with the rule's example. -/
def Obligations.FunctionCodeIsAnOperand : Prop :=
  (∀ (addr fc fc' : Byte) (start count : U16) (s : State), s.running = none →
    ∃ t t', exec (.frameBuild addr fc start count) s = .next t ∧
      exec (.frameBuild addr fc' start count) s = .next t' ∧
      t.err = some .noError ∧ t'.txf.take 6 = (t.txf.take 6).set 1 fc') ∧
  (∀ s : State, s.running = none → ∃ t, exec (.frameBuild 0xFF#8 0x10#8 0x1234#16 0xFFFF#16) s = .next t ∧
    t.txf = [0xFF#8, 0x10#8, 0x12#8, 0x34#8, 0xFF#8, 0xFF#8, 0x90#8, 0xD1#8])

/-- R144: the frame is fully determined by the operands, and the operation touches neither the transport
nor `CST`, `RXB` or `REGS`, and cannot block. -/
def Obligations.FrameBuildIsPure : Prop :=
  ∀ (addr fc : Byte) (start count : U16) (s s' : State), s.running = none → s'.running = none →
    ∃ t t', exec (.frameBuild addr fc start count) s = .next t ∧
      exec (.frameBuild addr fc start count) s' = .next t' ∧
      t.txf = t'.txf ∧ t.out = t'.out ∧ t.running = none ∧ t.bus = s.bus ∧
      t.flushAnswers = s.flushAnswers ∧ t.writeAnswers = s.writeAnswers ∧
      t.readAnswers = s.readAnswers ∧ t.cst = s.cst ∧ t.rxb = s.rxb ∧ t.regs = s.regs

/-- R145 (the spec's own inference): the operands can be read back from the frame, so the builder is
injective in its four operands. -/
def Obligations.BuiltOperandsReadBack : Prop :=
  (∀ (a c : Byte) (st n : U16) (s t : State), exec (.frameBuild a c st n) s = .next t →
    memRead1 t.txf 0 = some a ∧ memRead1 t.txf 1 = some c ∧ memRead2 t.txf 2 = some st ∧
    memRead2 t.txf 4 = some n ∧
    ∃ u lo hi, exec (.crcCompute (t.txf.take 6)) s = .next u ∧
      u.out = some { err := .noError, data := some (.checksum lo hi) } ∧ t.txf.drop 6 = [lo, hi]) ∧
  (∀ (a c a' c' : Byte) (st n st' n' : U16) (s t s' t' : State),
    exec (.frameBuild a c st n) s = .next t → exec (.frameBuild a' c' st' n') s' = .next t' →
    t.txf = t'.txf → a = a' ∧ c = c' ∧ st = st' ∧ n = n')

/-! ## The decoder -/

/-- R150, R151, R152: the two views of a register, high byte first, with their examples; nothing is
lost. -/
def Obligations.RegisterViewsLoseNothing : Prop :=
  (∀ hi lo : Byte, regOfBytes hi lo = (hi.setWidth 16 <<< 8) ||| lo.setWidth 16) ∧
  (∀ v : U16, bytesOfReg v = (v.extractLsb' 8 8, v.extractLsb' 0 8)) ∧
  regOfBytes 0xAE#8 0x41#8 = 0xAE41#16 ∧ regOfBytes 0x00#8 0xFF#8 = 0x00FF#16 ∧
  regOfBytes 0xFF#8 0x00#8 = 0xFF00#16 ∧ bytesOfReg 0x5652#16 = (0x56#8, 0x52#8) ∧
  (∀ v : U16, regOfBytes (bytesOfReg v).1 (bytesOfReg v).2 = v) ∧
  (∀ hi lo : Byte, bytesOfReg (regOfBytes hi lo) = (hi, lo))

/-- `FRAME.DECODE` completes on every input of at least 5 bytes that ends in its own checksum (and whose
byte count agrees, where that is checked): `(n-5)/2` registers, register `i` read high byte first at
`3+2i`, every read before the trailer; everything else the operation writes, and nothing more. -/
def Obligations.FrameDecodeCompletes : Prop :=
  ∀ (f : List Byte) (n : U16) (s : State), s.running = none → 5 ≤ f.length →
    ownChecksum f = true → (s.cfg.checkByteCount = true → byteCountAgrees f = true) →
    ∃ bi k regs, exec (.frameDecode f n) s = .next { s with
        input := f, reqcnt := n, rxb := f, crc := crc16 (f.take (f.length - 2)), bi := bi, k := k,
        regs := some regs, out := some { err := .noError, data := some (.registers regs) } } ∧
      regs.length = (f.length - 5) / 2 ∧
      ∀ i, i < regs.length → 4 + 2 * i ≤ f.length - 3 ∧
        ∃ hi lo, f[3 + 2 * i]? = some hi ∧ f[4 + 2 * i]? = some lo ∧
          regs[i]? = some ((hi.setWidth 16 <<< 8) ||| lo.setWidth 16)

/-- R154: below 5 bytes the decoder ends with `MalformedFrameError` and no checksum has been computed,
whatever the bytes and the configuration. -/
def Obligations.DecodeGuardsLengthFirst : Prop :=
  ∀ (f : List Byte) (n : U16) (s : State), s.running = none → f.length < 5 →
    exec (.frameDecode f n) s = .next { s with
      input := f, reqcnt := n, rxb := f, regs := none,
      out := some { err := .malformedFrame, data := none } }

/-- R155: a frame of at least 5 bytes whose last two are not its checksum ends with `CRCMismatchError` and
no register, whatever its byte count and the configuration. -/
def Obligations.DecodeChecksumGate : Prop :=
  ∀ (f : List Byte) (n : U16) (s : State), s.running = none → 5 ≤ f.length →
    f.drop (f.length - 2) ≠ trailer (crc16 (f.take (f.length - 2))) →
    ∃ bi k, exec (.frameDecode f n) s = .next { s with
      input := f, reqcnt := n, rxb := f, crc := crc16 (f.take (f.length - 2)), bi := bi, k := k,
      regs := none, out := some { err := .crcMismatch, data := none } }

/-- R159 (the spec's decision D8): the byte-count field is ignored by default; with the check on, a frame
that passed the checksum gate is malformed exactly when the field differs from `2*c`, so that every frame
with more than 127 registers fails; with the rule's example frame in both configurations. -/
def Obligations.ByteCountCheckIsOptional : Prop :=
  (∀ (f : List Byte) (n : U16) (s : State), s.running = none → 5 ≤ f.length → ownChecksum f = true →
    ∃ t b, exec (.frameDecode f n) s = .next t ∧ f[2]? = some b ∧
      t.err = some (if s.cfg.checkByteCount = true ∧ b.toNat ≠ 2 * ((f.length - 5) / 2)
        then .malformedFrame else .noError) ∧
      (s.cfg.checkByteCount = true → 127 < (f.length - 5) / 2 → t.err = some .malformedFrame) ∧
      (s.cfg.checkByteCount = true → b.toNat ≠ 2 * ((f.length - 5) / 2) → ∃ bi k, t = { s with
        input := f, reqcnt := n, rxb := f, crc := crc16 (f.take (f.length - 2)), bi := bi, k := k,
        regs := none, out := some { err := .malformedFrame, data := none } })) ∧
  (∀ s : State, s.running = none →
    ∃ t, exec (.frameDecode [0x01#8, 0x03#8, 0xFF#8, 0x12#8, 0x34#8, 0x24#8, 0xC3#8] 1#16) s = .next t ∧
      t.regs = (if s.cfg.checkByteCount = true then none else some [0x1234#16]))

/-- R160 (the spec's decision D9): the address, the function code and `REQCNT` are not compared with
anything: frames that differ in them alone have the same outcome, and with the byte-count check off that is
the registers of the data bytes, however many; with the rule's examples, under either setting. -/
def Obligations.DecoderComparesNothingElse : Prop :=
  (∀ (a c a' c' bc : Byte) (data : List Byte) (n n' : U16) (s : State), s.running = none →
    ∃ t t', exec (.frameDecode (withTrailer ([a, c, bc] ++ data)) n) s = .next t ∧
      exec (.frameDecode (withTrailer ([a', c', bc] ++ data)) n') s = .next t' ∧ t'.out = t.out ∧
      (s.cfg.checkByteCount = false → t.err = some .noError ∧ t.nreg = some (data.length / 2))) ∧
  (∀ s : State, s.running = none →
    (∃ t, exec (.frameDecode [0x02#8, 0x04#8, 0x02#8, 0x01#8, 0x02#8, 0x7D#8, 0x61#8] 1#16) s = .next t ∧
      t.regs = some [0x0102#16]) ∧
    (∃ t, exec (.frameDecode [0x01#8, 0x03#8, 0x08#8, 0x00#8, 0x01#8, 0x00#8, 0x02#8, 0x00#8, 0x03#8,
        0x00#8, 0x04#8, 0x0D#8, 0x14#8] 2#16) s = .next t ∧
      t.regs = some [0x0001#16, 0x0002#16, 0x0003#16, 0x0004#16]))

/-- R161: an odd data byte belongs to no register; it is covered by the checksum and ignored otherwise
(where the byte count is checked, it counts the bytes without it); with the rule's example. -/
def Obligations.OddDataByteIsIgnored : Prop :=
  (∀ (a c bc x : Byte) (regs : List U16) (n : U16) (s : State), s.running = none →
    (s.cfg.checkByteCount = true → bc.toNat = 2 * regs.length) →
    ∃ t, exec (.frameDecode (withTrailer ([a, c, bc] ++ dataBytes regs ++ [x])) n) s = .next t ∧
      t.out = some { err := .noError, data := some (.registers regs) } ∧ t.regs = some regs) ∧
  (∀ s : State, s.running = none → s.cfg.checkByteCount = false →
    ∃ t, exec (.frameDecode [0x01#8, 0x03#8, 0x06#8, 0xAE#8, 0x41#8, 0x56#8, 0x94#8, 0xCD#8] 3#16) s =
      .next t ∧ t.regs = some [0xAE41#16])

/-- R162 (the spec's own inference): decoding a well-formed response with known register values gives
exactly those, in the same order: up to 65535 registers with the byte-count check off, up to 127 with it
on. -/
def Obligations.ResponseRoundTrip : Prop :=
  ∀ (a : Byte) (w : List U16) (s : State), s.running = none → w.length ≤ 65535 →
    (s.cfg.checkByteCount = true → w.length ≤ 127) →
    ∀ u lo hi, exec (.crcCompute ([a, 0x03#8, BitVec.ofNat 8 (2 * w.length)] ++
        w.flatMap (fun v => [v.extractLsb' 8 8, v.extractLsb' 0 8]))) s = .next u →
      u.out = some { err := .noError, data := some (.checksum lo hi) } →
      ∃ t, exec (.frameDecode ([a, 0x03#8, BitVec.ofNat 8 (2 * w.length)] ++
          w.flatMap (fun v => [v.extractLsb' 8 8, v.extractLsb' 0 8]) ++ [lo, hi])
          (BitVec.ofNat 16 w.length)) s = .next t ∧
        t.out = some { err := .noError, data := some (.registers w) }

/-- R163 (the spec's own inference): on a short read the computed count is below the requested one and no
access is out of range, both unconditionally; registers are returned exactly when the bytes received pass
the checksum gate on their own; with the rule's examples. -/
def Obligations.ShortReads : Prop :=
  (∀ (f : List Byte) (n : U16) (s : State), s.running = none → s.cfg.checkByteCount = false →
    5 ≤ f.length → f.length < 5 + 2 * n.toNat →
    (f.length - 5) / 2 < n.toNat ∧ (∀ i, i < (f.length - 5) / 2 → 4 + 2 * i < f.length) ∧
    ∃ t, exec (.frameDecode f n) s = .next t ∧
      t.nreg = (if f.drop (f.length - 2) = trailer (crc16 (f.take (f.length - 2)))
        then some ((f.length - 5) / 2) else none)) ∧
  (∀ s : State, s.running = none → s.cfg.checkByteCount = false →
    (∃ t, exec (.frameDecode [0x01#8, 0x03#8, 0x06#8, 0xAE#8, 0x41#8, 0x56#8, 0x52#8, 0x43#8, 0x40#8]
      3#16) s = .next t ∧ t.err = some .crcMismatch) ∧
    (∃ t, exec (.frameDecode [0x01#8, 0x03#8, 0x06#8, 0xAE#8, 0x41#8, 0x56#8, 0x52#8, 0x4D#8, 0x52#8]
      3#16) s = .next t ∧ t.regs = some [0xAE41#16, 0x5652#16]))

/-- R164 (the spec's own inference): the outcome of `FRAME.DECODE` depends on `IN` and
`CFG.CHECK_BYTECOUNT` alone; it touches neither the transport nor `CST` nor `TXF`, and cannot block. -/
def Obligations.FrameDecodeIsPure : Prop :=
  ∀ (f : List Byte) (n n' : U16) (s s' : State), s.running = none → s'.running = none →
    s.cfg.checkByteCount = s'.cfg.checkByteCount →
    ∃ t t', exec (.frameDecode f n) s = .next t ∧ exec (.frameDecode f n') s' = .next t' ∧
      t.out = t'.out ∧ t.regs = t'.regs ∧ t.running = none ∧ t.bus = s.bus ∧
      t.flushAnswers = s.flushAnswers ∧ t.writeAnswers = s.writeAnswers ∧
      t.readAnswers = s.readAnswers ∧ t.cst = s.cst ∧ t.txf = s.txf

/-! ## The client -/

/-- `CLIENT.RHR` completes when its response fits the buffer, the flush passes, the write accepts the 8
bytes, and the read answers without error bytes that are a frame: the registers of that frame; it issues
exactly the transactions of one exchange, takes one answer for each, and changes nothing else. -/
def Obligations.ClientExchangeCompletes : Prop :=
  ∀ (addr : Byte) (start count : U16) (s : State) (b : List Byte) (wrest : List WriteAnswer)
    (rrest : List ReadAnswer), s.running = none → 5 + 2 * count.toNat ≤ s.cfg.rxCap → s.FlushPasses →
    s.writeAnswers = { accepted := 8, status := .ok } :: wrest →
    s.readAnswers = { bytes := b, status := .ok } :: rrest →
    5 ≤ b.length → b.length ≤ 5 + 2 * count.toNat → ownChecksum b = true →
    (s.cfg.checkByteCount = true → byteCountAgrees b = true) →
    ∃ bi k, exec (.clientRhr addr start count) s = .next { s with
      addr := addr, start := start, count := count, input := b, reqcnt := count,
      crc := crc16 (b.take (b.length - 2)), bi := bi, k := k,
      txf := requestFrame addr 0x03#8 start count, rxb := b, regs := some (extractRegs b), cst := .idle,
      out := some { err := .noError, data := some (.registers (extractRegs b)) },
      flushAnswers := s.flushRest, writeAnswers := wrest, readAnswers := rrest,
      bus := s.bus ++ exchangeTransactions s.cfg addr start count }

/-- R182: the decoder gets exactly the bytes read and `COUNT`: a read answered without error ends
`CLIENT.RHR` with the output and the registers `FRAME.DECODE` gives on those bytes, its errors included.
The next state is given whole, for every verdict of the decoder. -/
def Obligations.ClientPassesTheBytesRead : Prop :=
  ∀ (addr : Byte) (start count : U16) (s : State) (b : List Byte) (wrest : List WriteAnswer)
    (rrest : List ReadAnswer), s.running = none → 5 + 2 * count.toNat ≤ s.cfg.rxCap → s.FlushPasses →
    s.writeAnswers = { accepted := 8, status := .ok } :: wrest →
    s.readAnswers = { bytes := b, status := .ok } :: rrest → b.length ≤ 5 + 2 * count.toNat →
    ∃ t u bi k, exec (.clientRhr addr start count) s = .next t ∧
      exec (.frameDecode b count) s = .next u ∧
      t = { s with
        addr := addr, start := start, count := count, input := b, reqcnt := count,
        crc := (if b.length < 5 then crc16 (requestPrefix addr 0x03#8 start count)
          else crc16 (b.take (b.length - 2))), bi := bi, k := k,
        txf := requestFrame addr 0x03#8 start count, rxb := b, regs := u.regs,
        cst := .idle, out := u.out,
        flushAnswers := s.flushRest, writeAnswers := wrest, readAnswers := rrest,
        bus := s.bus ++ exchangeTransactions s.cfg addr start count } ∧
      (b.length < 5 → t.err = some .malformedFrame) ∧
      (5 ≤ b.length → ownChecksum b = false → t.err = some .crcMismatch) ∧
      (t.err = some .noError → t.nreg = some ((b.length - 5) / 2) ∧
        (b.length = 5 + 2 * count.toNat → t.nreg = some count.toNat))

/-- R177 (the spec's decision D7): a failed flush that aborts ends the operation with `TransportFlushError`
and neither a write nor a read is issued; one that does not abort changes nothing in what follows. What
`RXB` and `RXN` hold without a read is log entry 25. -/
def Obligations.FailedFlush : Prop :=
  ∀ (addr : Byte) (start count : U16) (s : State) (rest : List Status), s.running = none →
    5 + 2 * count.toNat ≤ s.cfg.rxCap → s.cfg.flushEn = true → s.flushAnswers = .error :: rest →
    (s.cfg.flushErrAborts = true → exec (.clientRhr addr start count) s = .next { s with
      addr := addr, start := start, count := count, regs := none, cst := .idle,
      out := some { err := .transportFlush, data := none },
      flushAnswers := rest, bus := s.bus ++ [.flush] }) ∧
    (s.cfg.flushErrAborts = false → exec (.clientRhr addr start count) s =
      exec (.clientRhr addr start count) { s with flushAnswers := .ok :: rest })

/-- R179: a write that failed or accepted fewer than 8 bytes ends the operation with `TransportWriteError`;
no read is issued and `CST` is Idle. What `RXB` and `RXN` hold without a read is log entry 25. -/
def Obligations.FailedWrite : Prop :=
  ∀ (addr : Byte) (start count : U16) (s : State) (a : WriteAnswer) (rest : List WriteAnswer),
    s.running = none → 5 + 2 * count.toNat ≤ s.cfg.rxCap → s.FlushPasses →
    s.writeAnswers = a :: rest → a.accepted ≤ 8 → a.status = .error ∨ a.accepted < 8 →
    ∃ bi k, exec (.clientRhr addr start count) s = .next { s with
      addr := addr, start := start, count := count,
      crc := crc16 (requestPrefix addr 0x03#8 start count), bi := bi, k := k,
      txf := requestFrame addr 0x03#8 start count, regs := none, cst := .idle,
      out := some { err := .transportWrite, data := none },
      flushAnswers := s.flushRest, writeAnswers := rest,
      bus := s.bus ++ (if s.cfg.flushEn = true then [.flush] else []) ++
        [.write (requestFrame addr 0x03#8 start count)] }

/-- R181 (the spec's decision D15): a read that failed ends the operation with `TransportReadError`,
whatever bytes came with it, and the decoder is not run; a read without an error is no failure, however few
bytes it returned. -/
def Obligations.FailedRead : Prop :=
  (∀ (addr : Byte) (start count : U16) (s : State) (b : List Byte) (wrest : List WriteAnswer)
    (rrest : List ReadAnswer), s.running = none → 5 + 2 * count.toNat ≤ s.cfg.rxCap → s.FlushPasses →
    s.writeAnswers = { accepted := 8, status := .ok } :: wrest →
    s.readAnswers = { bytes := b, status := .error } :: rrest → b.length ≤ 5 + 2 * count.toNat →
    ∃ bi k, exec (.clientRhr addr start count) s = .next { s with
      addr := addr, start := start, count := count,
      crc := crc16 (requestPrefix addr 0x03#8 start count), bi := bi, k := k,
      txf := requestFrame addr 0x03#8 start count, rxb := b, regs := none, cst := .idle,
      out := some { err := .transportRead, data := none },
      flushAnswers := s.flushRest, writeAnswers := wrest, readAnswers := rrest,
      bus := s.bus ++ exchangeTransactions s.cfg addr start count }) ∧
  (∀ (addr : Byte) (start count : U16) (s : State) (b : List Byte) (wrest : List WriteAnswer)
    (rrest : List ReadAnswer), s.running = none → 5 + 2 * count.toNat ≤ s.cfg.rxCap → s.FlushPasses →
    s.writeAnswers = { accepted := 8, status := .ok } :: wrest →
    s.readAnswers = { bytes := b, status := .ok } :: rrest → b.length ≤ 5 + 2 * count.toNat →
    ∃ t, exec (.clientRhr addr start count) s = .next t ∧ t.running = none ∧ t.err ≠ some .transportRead)

/-- R53 (the spec's decision D11): the response buffer has `5 + 2*COUNT` bytes, computed without
wrap-around; a larger one than `CFG.RX_CAP` is refused, and with the default capacity none is. -/
def Obligations.ResponseBufferLength : Prop :=
  responseLength 0#16 = 5 ∧ responseLength 125#16 = 255 ∧ responseLength 65535#16 = 131075 ∧
  (∀ count : U16, responseLength count ≤ Cfg.default.rxCap) ∧
  (∀ (addr : Byte) (start count : U16) (s : State), s.running = none →
    (s.cfg.rxCap < 5 + 2 * count.toNat ↔
      exec (.clientRhr addr start count) s = .refused .responseExceedsCapacity))

/-- Answers outside the transport's contract have no meaning: more than 8 bytes accepted, or more bytes
returned than the buffer holds, are refused (R172, R173; with any status, log entry 12). -/
def Obligations.AnswersBeyondContractAreRefused : Prop :=
  (∀ (addr : Byte) (start count : U16) (s : State) (a : WriteAnswer) (rest : List WriteAnswer),
    s.running = none → 5 + 2 * count.toNat ≤ s.cfg.rxCap → s.FlushPasses →
    s.writeAnswers = a :: rest → 8 < a.accepted →
    exec (.clientRhr addr start count) s = .refused .writeAnswerBeyondContract) ∧
  (∀ (addr : Byte) (start count : U16) (s : State) (wrest : List WriteAnswer) (a : ReadAnswer)
    (rrest : List ReadAnswer), s.running = none → 5 + 2 * count.toNat ≤ s.cfg.rxCap → s.FlushPasses →
    s.writeAnswers = { accepted := 8, status := .ok } :: wrest → s.readAnswers = a :: rrest →
    5 + 2 * count.toNat < a.bytes.length →
    exec (.clientRhr addr start count) s = .refused .readAnswerBeyondContract)

/-- R184 (the spec's decision D23): `CST` is Idle at every completion and while a flush or a write is
awaited, and AwaitingResponse while the read is; it is AwaitingResponse only after a write that returned ok
with 8 bytes accepted. -/
def Obligations.ClientStateMoves : Prop :=
  (∀ (addr : Byte) (start count : U16) (s t : State), exec (.clientRhr addr start count) s = .next t →
    (t.cst = .awaitingResponse ↔ t.running = some .read) ∧
    (t.cst = .awaitingResponse →
      ∃ rest, s.writeAnswers = { accepted := 8, status := .ok } :: rest)) ∧
  (∀ (w : Wait) (s t : State), s.running = some w →
    (s.cst = .awaitingResponse ↔ s.running = some .read) → step s = .next t →
    (t.cst = .awaitingResponse ↔ t.running = some .read)) ∧
  (∀ (addr : Byte) (start count : U16) (s : State) (rest : List WriteAnswer), s.running = none →
    5 + 2 * count.toNat ≤ s.cfg.rxCap → s.FlushPasses →
    s.writeAnswers = { accepted := 8, status := .ok } :: rest → s.readAnswers = [] →
    ∃ t, exec (.clientRhr addr start count) s = .next t ∧ t.cst = .awaitingResponse ∧
      t.running = some .read ∧ t.bus = s.bus ++ exchangeTransactions s.cfg addr start count)

/-- R185 and R180: an exchange issues at most the enabled flush, one write of the whole request and one
read of `5 + 2*COUNT` bytes, in that order: at issue at least the first of them, when it resumes after a
wait only what is left after the one waited for, and all of them when it completes without error. -/
def Obligations.OneWriteOneRead : Prop :=
  (∀ (addr : Byte) (start count : U16) (s t : State), exec (.clientRhr addr start count) s = .next t →
    ∃ issued, issued ≠ [] ∧ issued <+: exchangeTransactions s.cfg addr start count ∧
      t.bus = s.bus ++ issued ∧
      (t.err = some .noError → issued = exchangeTransactions s.cfg addr start count)) ∧
  (∀ (w : Wait) (s t : State), s.running = some w → s.out = none → step s = .next t →
    ∃ issued left, left = (match w with
        | .flush => [.write (requestFrame s.addr 0x03#8 s.start s.count), .read (5 + 2 * s.count.toNat)]
        | .write => [.read (5 + 2 * s.count.toNat)]
        | .read => []) ∧
      issued <+: left ∧ t.bus = s.bus ++ issued ∧ (t.err = some .noError → issued = left))

/-- R187 (the spec's decision D16): a transaction that is never answered is a hang. Issued without the
answer to its flush, its write or its read, `CLIENT.RHR` waits for it: the whole next state is given for
each. The waiting block has no step, which the model says by a named fault (log entry 10), delivers neither
result nor error, and takes no further operation; only an answer lets it go on. That the waiting is a state
between two steps is the model's choice (log entries 1 and 2). -/
def Obligations.UnansweredTransactionHangs : Prop :=
  (∀ (s : State) (w : Wait), s.running = some w →
    (step s = .fault (.transportDoesNotAnswer w) ↔
      (match w with
        | .flush => s.flushAnswers = []
        | .write => s.writeAnswers = []
        | .read => s.readAnswers = []))) ∧
  (∀ (addr : Byte) (start count : U16) (s t : State), exec (.clientRhr addr start count) s = .next t →
    t.running ≠ none → t.err = none ∧ t.valid = none ∧ t.regs = none ∧
      ∀ i u, exec i t ≠ .next u) ∧
  (∀ (addr : Byte) (start count : U16) (s : State), s.running = none →
    5 + 2 * count.toNat ≤ s.cfg.rxCap → s.cfg.flushEn = true → s.flushAnswers = [] →
    exec (.clientRhr addr start count) s = .next { s with
      addr := addr, start := start, count := count, regs := none, cst := .idle,
      running := some .flush, out := none, bus := s.bus ++ [.flush] }) ∧
  (∀ (addr : Byte) (start count : U16) (s : State), s.running = none →
    5 + 2 * count.toNat ≤ s.cfg.rxCap → s.FlushPasses → s.writeAnswers = [] →
    ∃ bi k, exec (.clientRhr addr start count) s = .next { s with
      addr := addr, start := start, count := count,
      crc := crc16 (requestPrefix addr 0x03#8 start count), bi := bi, k := k,
      txf := requestFrame addr 0x03#8 start count, regs := none, cst := .idle,
      running := some .write, out := none, flushAnswers := s.flushRest,
      bus := s.bus ++ (if s.cfg.flushEn = true then [.flush] else []) ++
        [.write (requestFrame addr 0x03#8 start count)] }) ∧
  (∀ (addr : Byte) (start count : U16) (s : State) (wrest : List WriteAnswer), s.running = none →
    5 + 2 * count.toNat ≤ s.cfg.rxCap → s.FlushPasses →
    s.writeAnswers = { accepted := 8, status := .ok } :: wrest → s.readAnswers = [] →
    ∃ bi k, exec (.clientRhr addr start count) s = .next { s with
      addr := addr, start := start, count := count,
      crc := crc16 (requestPrefix addr 0x03#8 start count), bi := bi, k := k,
      txf := requestFrame addr 0x03#8 start count, regs := none, cst := .awaitingResponse,
      running := some .read, out := none, flushAnswers := s.flushRest, writeAnswers := wrest,
      bus := s.bus ++ exchangeTransactions s.cfg addr start count })

/-- Where an answer comes late, the exchange ends as if it had been there at issue: waiting for the flush,
the write or the read and then being answered is the same as not having waited. Where the exchange stops to
wait, and where its answers come from, is the model's choice (log entries 1 and 2). -/
def Obligations.LateAnswersMakeNoDifference : Prop :=
  ∀ (addr : Byte) (start count : U16) (s t : State),
    (s.flushAnswers ≠ [] →
      exec (.clientRhr addr start count) { s with flushAnswers := [] } = .next t →
      t.running = some .flush →
      step { t with flushAnswers := s.flushAnswers } = exec (.clientRhr addr start count) s) ∧
    (s.writeAnswers ≠ [] →
      exec (.clientRhr addr start count) { s with writeAnswers := [] } = .next t →
      t.running = some .write →
      step { t with writeAnswers := s.writeAnswers } = exec (.clientRhr addr start count) s) ∧
    (s.readAnswers ≠ [] →
      exec (.clientRhr addr start count) { s with readAnswers := [] } = .next t →
      t.running = some .read →
      step { t with readAnswers := s.readAnswers } = exec (.clientRhr addr start count) s)

/-! ## Errors -/

/-- R201 (the spec's decision D5): the codes of the `ERR` output. -/
def Obligations.ErrorCodes : Prop :=
  errCode .noError = 0 ∧ errCode .transportWrite = 1 ∧ errCode .transportRead = 2 ∧
  errCode .crcMismatch = 3 ∧ errCode .malformedFrame = 4 ∧ errCode .transportFlush = 5

/-- R206: an operation that ends with an error delivers no data, and one that delivers data has not failed;
a failed decode or exchange leaves no registers at all, and the empty register list that a 5- or 6-byte
frame gives is a success. -/
def Obligations.ErrorsDeliverNoData : Prop :=
  (∀ (i : Instr) (s t : State) (c : Completion), exec i s = .next t → t.out = some c →
    (c.err ≠ .noError ↔ c.data = none) ∧
    (∀ regs, c.data = some (.registers regs) → t.regs = some regs)) ∧
  (∀ (i : Instr) (s t : State) (e : Err),
    (∃ f n, i = .frameDecode f n) ∨ (∃ a st n, i = .clientRhr a st n) →
    exec i s = .next t → t.err = some e → (e ≠ .noError ↔ t.regs = none)) ∧
  (∀ (a c bc : Byte) (data : List Byte) (n : U16) (s : State), s.running = none → data.length ≤ 1 →
    (s.cfg.checkByteCount = true → bc = 0x00#8) →
    ∃ t, exec (.frameDecode (withTrailer ([a, c, bc] ++ data)) n) s = .next t ∧
      t.out = some { err := .noError, data := some (.registers []) })

/-- R208 (the spec's own inference): which operation can end with which error class, and on what: for
`CLIENT.RHR` each class exactly on the answers of the transport that its rule names. -/
def Obligations.ErrorClassesOfOperations : Prop :=
  (∀ input s t, exec (.crcCompute input) s = .next t → t.err = some .noError) ∧
  (∀ input s t, exec (.crcVerify input) s = .next t →
    t.err = some (if input.length < 2 then .malformedFrame else .noError)) ∧
  (∀ a c st n s t, exec (.frameBuild a c st n) s = .next t → t.err = some .noError) ∧
  (∀ f n s t, exec (.frameDecode f n) s = .next t → t.err = some
    (if f.length < 5 then .malformedFrame
     else if ownChecksum f = false then .crcMismatch
     else if s.cfg.checkByteCount = true ∧ byteCountAgrees f = false then .malformedFrame
     else .noError)) ∧
  (∀ a st n s t e, exec (.clientRhr a st n) s = .next t → (t.err = some e ↔
    match e with
    | .transportFlush => s.cfg.flushEn = true ∧ s.cfg.flushErrAborts = true ∧
        ∃ rest, s.flushAnswers = .error :: rest
    | .transportWrite => s.FlushPasses ∧
        ∃ w rest, s.writeAnswers = w :: rest ∧ (w.status = .error ∨ w.accepted < 8)
    | .transportRead => ∃ b, s.ReadAnsweredBy { bytes := b, status := .error }
    | .malformedFrame => ∃ b, s.ReadAnsweredBy { bytes := b, status := .ok } ∧
        (b.length < 5 ∨
          ownChecksum b = true ∧ s.cfg.checkByteCount = true ∧ byteCountAgrees b = false)
    | .crcMismatch => ∃ b, s.ReadAnsweredBy { bytes := b, status := .ok } ∧
        5 ≤ b.length ∧ ownChecksum b = false
    | .noError => ∃ b, s.ReadAnsweredBy { bytes := b, status := .ok } ∧
        5 ≤ b.length ∧ ownChecksum b = true ∧
        (s.cfg.checkByteCount = true → byteCountAgrees b = true)))

/-- R210 (the spec's decision D6): the first error in the fixed order is the one reported: flush, write,
read, length, checksum, byte count; for `FRAME.DECODE` the last three. With all the transport's answers at
hand the exchange completes with that outcome. -/
def Obligations.FirstErrorIsReported : Prop :=
  (∀ (addr : Byte) (start count : U16) (s : State) (f : Status) (frest : List Status) (w : WriteAnswer)
    (wrest : List WriteAnswer) (r : ReadAnswer) (rrest : List ReadAnswer), s.running = none →
    5 + 2 * count.toNat ≤ s.cfg.rxCap → s.flushAnswers = f :: frest → s.writeAnswers = w :: wrest →
    s.readAnswers = r :: rrest → KeepsContract count w r →
    ∃ t, exec (.clientRhr addr start count) s = .next t ∧ t.running = none ∧ t.err = some
      (if s.cfg.flushEn = true ∧ f = .error ∧ s.cfg.flushErrAborts = true then .transportFlush
       else if w.status = .error ∨ w.accepted < 8 then .transportWrite
       else if r.status = .error then .transportRead
       else if r.bytes.length < 5 then .malformedFrame
       else if ownChecksum r.bytes = false then .crcMismatch
       else if s.cfg.checkByteCount = true ∧ byteCountAgrees r.bytes = false then .malformedFrame
       else .noError)) ∧
  (∀ (f : List Byte) (n : U16) (s : State), s.running = none →
    ∃ t, exec (.frameDecode f n) s = .next t ∧ t.err = some
      (if f.length < 5 then .malformedFrame
       else if ownChecksum f = false then .crcMismatch
       else if s.cfg.checkByteCount = true ∧ byteCountAgrees f = false then .malformedFrame
       else .noError))

/-- R216: an exception response is not recognised: any five bytes that end in their own checksum decode to
no registers and no error, alone and as the answer to a read; with the rule's example. -/
def Obligations.ExceptionResponsesAreNotRecognised : Prop :=
  (∀ (a c x : Byte) (n : U16) (s : State), s.running = none → s.cfg.checkByteCount = false →
    ∃ t, exec (.frameDecode (withTrailer [a, c, x]) n) s = .next t ∧
      t.err = some .noError ∧ t.regs = some []) ∧
  (∀ (a c x addr : Byte) (start count : U16) (s : State) (wrest : List WriteAnswer)
    (rrest : List ReadAnswer), s.running = none → s.cfg.checkByteCount = false →
    5 + 2 * count.toNat ≤ s.cfg.rxCap → s.FlushPasses →
    s.writeAnswers = { accepted := 8, status := .ok } :: wrest →
    s.readAnswers = { bytes := withTrailer [a, c, x], status := .ok } :: rrest →
    ∃ t, exec (.clientRhr addr start count) s = .next t ∧ t.err = some .noError ∧ t.regs = some []) ∧
  withTrailer [0x01#8, 0x83#8, 0x02#8] = [0x01#8, 0x83#8, 0x02#8, 0xC0#8, 0xF1#8]

/-! ## The wire-format rows -/

/-- `REQ.FC03` completes: the 8 bytes of the frame, in the layout of R81, are verified. That a request
frame handed to the block is verified is the model's choice (log entry 8). -/
def Obligations.RequestFrameIsVerified : Prop :=
  ∀ (addr : Byte) (start count : U16) (crcLo crcHi : Byte) (s : State), s.running = none →
    ∃ bi k p, p = [addr, 0x03#8, start.extractLsb' 8 8, start.extractLsb' 0 8, count.extractLsb' 8 8,
        count.extractLsb' 0 8] ∧
      exec (.reqFc03 addr start count crcLo crcHi) s = .next { s with
        input := p ++ [crcLo, crcHi], crc := crc16 p, bi := bi, k := k,
        out := some { err := .noError, data := some (.validity (decide
          (crcLo = (crc16 p).extractLsb' 0 8 ∧ crcHi = (crc16 p).extractLsb' 8 8))) } }

/-- `RSP.FC03` completes: a well-formed response delivers exactly its registers (where the byte count is
checked, if it agrees), one with a wrong trailer ends with `CRCMismatchError`, and one whose checked byte
count disagrees with `MalformedFrameError`. That a response frame handed to the block is decoded is the
model's choice (log entry 8). -/
def Obligations.ResponseFrameIsDecoded : Prop :=
  ∀ (addr byteCount : Byte) (regs : List U16) (crcLo crcHi : Byte) (s : State), s.running = none →
    ∃ bi k p, p = [addr, 0x03#8, byteCount] ++
        regs.flatMap (fun v => [v.extractLsb' 8 8, v.extractLsb' 0 8]) ∧
      ([crcLo, crcHi] = trailer (crc16 p) →
        (s.cfg.checkByteCount = true → byteCount.toNat = 2 * regs.length) →
        exec (.rspFc03 addr byteCount regs crcLo crcHi) s = .next { s with
          input := p ++ [crcLo, crcHi], rxb := p ++ [crcLo, crcHi], crc := crc16 p, bi := bi, k := k,
          regs := some regs, out := some { err := .noError, data := some (.registers regs) } }) ∧
      ([crcLo, crcHi] ≠ trailer (crc16 p) →
        exec (.rspFc03 addr byteCount regs crcLo crcHi) s = .next { s with
          input := p ++ [crcLo, crcHi], rxb := p ++ [crcLo, crcHi], crc := crc16 p, bi := bi, k := k,
          regs := none, out := some { err := .crcMismatch, data := none } }) ∧
      ([crcLo, crcHi] = trailer (crc16 p) → s.cfg.checkByteCount = true → byteCount.toNat ≠ 2 * regs.length →
        exec (.rspFc03 addr byteCount regs crcLo crcHi) s = .next { s with
          input := p ++ [crcLo, crcHi], rxb := p ++ [crcLo, crcHi], crc := crc16 p, bi := bi, k := k,
          regs := none, out := some { err := .malformedFrame, data := none } })

/-- R85: the function codes. That frames are issued with the name of their format, that one of function
code 16 decodes to an instruction of its own, and that any other is refused by name are the model's
readings (log entries 24, 9 and 21). 16 has no operation, and its frame is refused by its own name in every
state; 3 selects the two frame formats, and any other value in a frame handed to the block has no meaning;
`CLIENT.RHR` always puts 3 at offset 1 of its request, and `FRAME.BUILD` whatever it is given, the bytes
around it laid out the same way. -/
def Obligations.FunctionCodesSelectFormats : Prop :=
  (∀ (addr d2 d3 d4 d5 crcLo crcHi : Byte) (s : State),
    exec (.reqFc16 addr d2 d3 d4 d5 crcLo crcHi) s = .refused .functionCode16Reserved) ∧
  (∀ a fc d2 d3 d4 d5 lo hi : Byte,
    decode { fmt := .req8, bytes := [a, fc, d2, d3, d4, d5, lo, hi] } =
      if fc = 0x03#8 then .ok (.reqFc03 a ((d2.setWidth 16 <<< 8) ||| d3.setWidth 16)
        ((d4.setWidth 16 <<< 8) ||| d5.setWidth 16) lo hi)
      else if fc = 0x10#8 then .ok (.reqFc16 a d2 d3 d4 d5 lo hi)
      else .error (.functionCode fc)) ∧
  (∀ (a fc bc lo hi : Byte) (regs : List U16), regs.length ≤ 65535 →
    decode { fmt := .rspv, bytes := [a, fc, bc] ++
        regs.flatMap (fun v => [v.extractLsb' 8 8, v.extractLsb' 0 8]) ++ [lo, hi] } =
      if fc = 0x03#8 then .ok (.rspFc03 a bc regs lo hi) else .error (.functionCode fc)) ∧
  (∀ (a : Byte) (st n : U16) (s t : State), s.FlushPasses → exec (.clientRhr a st n) s = .next t →
    t.txf[1]? = some 0x03#8) ∧
  (∀ (a fc : Byte) (st n : U16) (s t : State), exec (.frameBuild a fc st n) s = .next t →
    t.txf.take 6 = [a, fc, st.extractLsb' 8 8, st.extractLsb' 0 8, n.extractLsb' 8 8, n.extractLsb' 0 8])

/-! ## The whole machine -/

/-- R186: nothing carries from one operation to the next: two free states that agree in `CFG`, in `CST` and
in the transport's answers have the same outcome for every instruction: the same output, the same
transactions, the same answers taken, the same refusal. -/
def Obligations.OperationsAreStateless : Prop :=
  ∀ (i : Instr) (s s' : State), s.running = none → s'.running = none → s.cfg = s'.cfg →
    s.cst = s'.cst → s.flushAnswers = s'.flushAnswers → s.writeAnswers = s'.writeAnswers →
    s.readAnswers = s'.readAnswers →
    match exec i s, exec i s' with
    | .next t, .next t' => t.out = t'.out ∧ t.running = t'.running ∧ t.cst = t'.cst ∧
        t.flushAnswers = t'.flushAnswers ∧ t.writeAnswers = t'.writeAnswers ∧
        t.readAnswers = t'.readAnswers ∧
        ∃ issued, t.bus = s.bus ++ issued ∧ t'.bus = s'.bus ++ issued
    | .refused r, .refused r' => r = r'
    | .fault f, .fault f' => f = f'
    | _, _ => False

/-- Only `CLIENT.RHR` talks to the transport and moves `CST`: every other instruction that answers a next
state leaves both, and the block is free after it. -/
def Obligations.OnlyClientUsesTheTransport : Prop :=
  ∀ (i : Instr) (s t : State), (∀ a st n, i ≠ .clientRhr a st n) → exec i s = .next t →
    t.bus = s.bus ∧ t.flushAnswers = s.flushAnswers ∧ t.writeAnswers = s.writeAnswers ∧
    t.readAnswers = s.readAnswers ∧ t.cst = s.cst ∧ t.running = none ∧ t.out ≠ none

/-- No step changes `CFG`, and a step takes at most the one word the host has issued next. -/
def Obligations.ConfigurationIsConstant : Prop :=
  ∀ s t : State, step s = .next t →
    t.cfg = s.cfg ∧ (t.host = s.host ∨ ∃ word, s.running = none ∧ s.host = word :: t.host)

/-- An operation issued while another is running has no meaning: no instruction answers a next state, and
all but the reserved frame name that reason (R236). -/
def Obligations.IssueWhileBusyIsRefused : Prop :=
  ∀ (i : Instr) (s : State) (w : Wait), s.running = some w →
    exec i s = .refused .issuedWhileBusy ∨
      ((∃ a d2 d3 d4 d5 lo hi, i = .reqFc16 a d2 d3 d4 d5 lo hi) ∧ exec i s = .refused .functionCode16Reserved)
end

