-- ==== Sys2Proof/Laws/Bytes.lean ====
section
/-! SUPPORT. Laws of the byte order and of the buffers: what a field keeps when it is split and assembled, the lengths of frames, prefixes and trailers, and reads and writes of a buffer. -/

namespace Sys2Proof.Machine

@[simp] theorem regOfBytes_hi8_lo8 (v : U16) : regOfBytes (hi8 v) (lo8 v) = v := by
  ext i hi
  simp only [regOfBytes, hi8, lo8, BitVec.getElem_or, BitVec.getElem_shiftLeft, BitVec.getElem_setWidth,
    BitVec.getLsbD_setWidth, BitVec.getLsbD_ushiftRight]
  by_cases h : i < 8
  · simp [h, BitVec.getLsbD_eq_getElem hi]
  · have : 8 + (i - 8) = i := by omega
    have h2 : i - 8 < 8 := by omega
    simp [h, h2, this, BitVec.getLsbD_eq_getElem hi]

@[simp] theorem hi8_regOfBytes (hi lo : Byte) : hi8 (regOfBytes hi lo) = hi := by
  ext i hi'
  have : 8 + i < 16 := by omega
  have h16 : i < 16 := by omega
  simp [regOfBytes, hi8, BitVec.getLsbD_eq_getElem hi', this, h16]

@[simp] theorem lo8_regOfBytes (hi lo : Byte) : lo8 (regOfBytes hi lo) = lo := by
  ext i hi'
  simp [regOfBytes, lo8]

@[simp] theorem bigEndian_length (v : U16) : (bigEndian v).length = 2 := rfl

@[simp] theorem trailer_length (v : U16) : (trailer v).length = 2 := rfl

@[simp] theorem requestPrefix_length (addr fc : Byte) (start count : U16) :
    (requestPrefix addr fc start count).length = 6 := rfl

@[simp] theorem withTrailer_length (p : List Byte) : (withTrailer p).length = p.length + 2 := by
  simp [withTrailer]

@[simp] theorem requestFrame_length (addr fc : Byte) (start count : U16) :
    (requestFrame addr fc start count).length = requestLength := rfl

@[simp] theorem dataBytes_length (regs : List U16) : (dataBytes regs).length = 2 * regs.length := by
  induction regs with
  | nil => rfl
  | cons r rs ih => simp [dataBytes] at ih ⊢; omega

theorem dataBytes_cons (r : U16) (rs : List U16) :
    dataBytes (r :: rs) = hi8 r :: lo8 r :: dataBytes rs := rfl

@[simp] theorem payloadPrefix_append (p : List Byte) (a b : Byte) : payloadPrefix (p ++ [a, b]) = p := by
  simp [payloadPrefix]

@[simp] theorem trailerOf_append (p : List Byte) (a b : Byte) : trailerOf (p ++ [a, b]) = [a, b] := by
  simp [trailerOf]

/-- A sequence of at least two bytes is its prefix and its two trailer bytes. -/
theorem exists_prefix_trailer (f : List Byte) (h : 2 ≤ f.length) : ∃ p a b, f = p ++ [a, b] := by
  refine ⟨f.take (f.length - 2), f[f.length - 2], f[f.length - 1], ?_⟩
  conv_lhs => rw [← List.take_append_drop (f.length - 2) f]
  congr 1
  apply List.ext_getElem
  · simp; omega
  · intro i h1 h2
    simp at h1 h2
    obtain rfl | rfl : i = 0 ∨ i = 1 := by omega
    · simp
    · simp; congr 1; omega

@[simp] theorem regsOfData_dataBytes (regs : List U16) : regsOfData (dataBytes regs) = regs := by
  induction regs with
  | nil => rfl
  | cons r rs ih => simp [dataBytes_cons, regsOfData, ih]

theorem regsOfData_length : ∀ d : List Byte, (regsOfData d).length = d.length / 2
  | [] => rfl
  | [_] => by simp [regsOfData]
  | _ :: _ :: rest => by simp [regsOfData, regsOfData_length rest]; omega

/-- The wire bytes of the registers in a run of data of even length are that run. -/
theorem dataBytes_regsOfData : ∀ d : List Byte, d.length % 2 = 0 → dataBytes (regsOfData d) = d
  | [], _ => rfl
  | [_], h => by simp at h
  | hi :: lo :: rest, h => by
    have : rest.length % 2 = 0 := by simp at h; omega
    simp [regsOfData, dataBytes_cons, dataBytes_regsOfData rest this]

theorem memRead2_eq (b : List Byte) (off : Nat) (h : off + 2 ≤ b.length) :
    memRead2 b off = some (regOfBytes b[off] b[off + 1]) := by
  simp [memRead2, List.getElem?_eq_getElem (show off < b.length by omega),
    List.getElem?_eq_getElem (show off + 1 < b.length by omega)]

theorem memWrite2_length (b c : List Byte) (off : Nat) (v : U16) (h : memWrite2 b off v = some c) :
    c.length = b.length := by
  unfold memWrite2 at h
  split at h
  · cases h; simp
  · cases h

theorem memWrite1_length (b c : List Byte) (off : Nat) (v : Byte) (h : memWrite1 b off v = some c) :
    c.length = b.length := by
  unfold memWrite1 at h
  split at h
  · cases h; simp
  · cases h

/-- A 16-bit field reads back as it was written. -/
theorem memRead2_memWrite2 (b c : List Byte) (off : Nat) (v : U16) (h : memWrite2 b off v = some c) :
    memRead2 c off = some v := by
  have hl := memWrite2_length b c off v h
  unfold memWrite2 at h
  split at h
  · cases h
    rw [memRead2_eq _ _ (by simpa using ‹_›)]
    simp
  · cases h

/-- A 16-bit write leaves every byte outside its two bytes alone. -/
theorem memRead1_memWrite2_other (b c : List Byte) (off i : Nat) (v : U16)
    (h : memWrite2 b off v = some c) (h0 : i ≠ off) (h1 : i ≠ off + 1) : memRead1 c i = memRead1 b i := by
  unfold memWrite2 at h
  split at h
  · cases h
    simp [memRead1, Ne.symm h0, Ne.symm h1]
  · cases h

end Sys2Proof.Machine
end

