-- ==== Sys2Proof/Laws/Checksum.lean ====
section
/-! SUPPORT. Laws of the checksum: the fold, the engine's single steps, and the comparison of a frame's trailer. -/

namespace Sys2Proof.Machine

@[simp] theorem crc16_nil : crc16 [] = crcInit := rfl

theorem crc16_append_byte (p : List Byte) (b : Byte) : crc16 (p ++ [b]) = crcByte (crc16 p) b := by
  simp [crc16]

theorem crc16_append_two (p : List Byte) (a b : Byte) :
    crc16 (p ++ [a, b]) = crcByte (crcByte (crc16 p) a) b := by
  simp [crc16]

/-- A shift step with bit 0 clear only shifts. -/
theorem crcBit_clear (r : U16) (h : r.getLsbD 0 = false) : crcBit r = r >>> 1 := by
  simp only [crcBit, h, Bool.false_eq_true, if_false]

/-- A shift step with bit 0 set shifts and applies the constant. -/
theorem crcBit_set (r : U16) (h : r.getLsbD 0 = true) : crcBit r = (r >>> 1) ^^^ 0xA001#16 := by
  simp only [crcBit, h, if_true]

theorem ownChecksum_append (p : List Byte) (a b : Byte) :
    ownChecksum (p ++ [a, b]) = decide (a = lo8 (crc16 p) ∧ b = hi8 (crc16 p)) := by
  simp only [ownChecksum, trailerOf_append, payloadPrefix_append, trailer]
  by_cases ha : a = lo8 (crc16 p) <;> by_cases hb : b = hi8 (crc16 p) <;> simp [ha, hb]

theorem ownChecksum_withTrailer (p : List Byte) : ownChecksum (withTrailer p) = true := by
  simp [withTrailer, trailer, ownChecksum_append]

theorem engineStep_done (bytes : List Byte) (e : CrcEngine) (h : bytes.length ≤ e.bi) :
    engineStep bytes e = e := by
  simp [engineStep, List.getElem?_eq_none h]

theorem engineRun_add (bytes : List Byte) (m n : Nat) (e : CrcEngine) :
    engineRun bytes (m + n) e = engineRun bytes n (engineRun bytes m e) := by
  induction m generalizing e with
  | zero => simp [engineRun]
  | succ m ih => simpa [engineRun, Nat.succ_add] using ih (engineStep bytes e)

end Sys2Proof.Machine
end

