-- ==== Sys2Proof/Laws/State.lean ====
section
/-! SUPPORT. One lemma for each field of State under each named update: what an update writes and what it leaves. -/

namespace Sys2Proof.Machine

variable (s : State)

@[simp] theorem State.loadInput_cfg (x : List Byte) : (s.loadInput x).cfg = s.cfg := rfl
@[simp] theorem State.loadInput_addr (x : List Byte) : (s.loadInput x).addr = s.addr := rfl
@[simp] theorem State.loadInput_fc (x : List Byte) : (s.loadInput x).fc = s.fc := rfl
@[simp] theorem State.loadInput_start (x : List Byte) : (s.loadInput x).start = s.start := rfl
@[simp] theorem State.loadInput_count (x : List Byte) : (s.loadInput x).count = s.count := rfl
@[simp] theorem State.loadInput_reqcnt (x : List Byte) : (s.loadInput x).reqcnt = s.reqcnt := rfl
@[simp] theorem State.loadInput_input (x : List Byte) : (s.loadInput x).input = x := rfl
@[simp] theorem State.loadInput_crc (x : List Byte) : (s.loadInput x).crc = s.crc := rfl
@[simp] theorem State.loadInput_bi (x : List Byte) : (s.loadInput x).bi = s.bi := rfl
@[simp] theorem State.loadInput_k (x : List Byte) : (s.loadInput x).k = s.k := rfl
@[simp] theorem State.loadInput_txf (x : List Byte) : (s.loadInput x).txf = s.txf := rfl
@[simp] theorem State.loadInput_rxb (x : List Byte) : (s.loadInput x).rxb = s.rxb := rfl
@[simp] theorem State.loadInput_regs (x : List Byte) : (s.loadInput x).regs = s.regs := rfl
@[simp] theorem State.loadInput_cst (x : List Byte) : (s.loadInput x).cst = s.cst := rfl
@[simp] theorem State.loadInput_running (x : List Byte) : (s.loadInput x).running = s.running := rfl
@[simp] theorem State.loadInput_out (x : List Byte) : (s.loadInput x).out = s.out := rfl
@[simp] theorem State.loadInput_host (x : List Byte) : (s.loadInput x).host = s.host := rfl
@[simp] theorem State.loadInput_flushAnswers (x : List Byte) : (s.loadInput x).flushAnswers = s.flushAnswers := rfl
@[simp] theorem State.loadInput_writeAnswers (x : List Byte) : (s.loadInput x).writeAnswers = s.writeAnswers := rfl
@[simp] theorem State.loadInput_readAnswers (x : List Byte) : (s.loadInput x).readAnswers = s.readAnswers := rfl
@[simp] theorem State.loadInput_bus (x : List Byte) : (s.loadInput x).bus = s.bus := rfl

@[simp] theorem State.loadBuild_cfg (a c : Byte) (st n : U16) : (s.loadBuild a c st n).cfg = s.cfg := rfl
@[simp] theorem State.loadBuild_addr (a c : Byte) (st n : U16) : (s.loadBuild a c st n).addr = a := rfl
@[simp] theorem State.loadBuild_fc (a c : Byte) (st n : U16) : (s.loadBuild a c st n).fc = c := rfl
@[simp] theorem State.loadBuild_start (a c : Byte) (st n : U16) : (s.loadBuild a c st n).start = st := rfl
@[simp] theorem State.loadBuild_count (a c : Byte) (st n : U16) : (s.loadBuild a c st n).count = n := rfl
@[simp] theorem State.loadBuild_reqcnt (a c : Byte) (st n : U16) : (s.loadBuild a c st n).reqcnt = s.reqcnt := rfl
@[simp] theorem State.loadBuild_input (a c : Byte) (st n : U16) : (s.loadBuild a c st n).input = s.input := rfl
@[simp] theorem State.loadBuild_crc (a c : Byte) (st n : U16) : (s.loadBuild a c st n).crc = s.crc := rfl
@[simp] theorem State.loadBuild_bi (a c : Byte) (st n : U16) : (s.loadBuild a c st n).bi = s.bi := rfl
@[simp] theorem State.loadBuild_k (a c : Byte) (st n : U16) : (s.loadBuild a c st n).k = s.k := rfl
@[simp] theorem State.loadBuild_txf (a c : Byte) (st n : U16) : (s.loadBuild a c st n).txf = s.txf := rfl
@[simp] theorem State.loadBuild_rxb (a c : Byte) (st n : U16) : (s.loadBuild a c st n).rxb = s.rxb := rfl
@[simp] theorem State.loadBuild_regs (a c : Byte) (st n : U16) : (s.loadBuild a c st n).regs = s.regs := rfl
@[simp] theorem State.loadBuild_cst (a c : Byte) (st n : U16) : (s.loadBuild a c st n).cst = s.cst := rfl
@[simp] theorem State.loadBuild_running (a c : Byte) (st n : U16) : (s.loadBuild a c st n).running = s.running := rfl
@[simp] theorem State.loadBuild_out (a c : Byte) (st n : U16) : (s.loadBuild a c st n).out = s.out := rfl
@[simp] theorem State.loadBuild_host (a c : Byte) (st n : U16) : (s.loadBuild a c st n).host = s.host := rfl
@[simp] theorem State.loadBuild_flushAnswers (a c : Byte) (st n : U16) : (s.loadBuild a c st n).flushAnswers = s.flushAnswers := rfl
@[simp] theorem State.loadBuild_writeAnswers (a c : Byte) (st n : U16) : (s.loadBuild a c st n).writeAnswers = s.writeAnswers := rfl
@[simp] theorem State.loadBuild_readAnswers (a c : Byte) (st n : U16) : (s.loadBuild a c st n).readAnswers = s.readAnswers := rfl
@[simp] theorem State.loadBuild_bus (a c : Byte) (st n : U16) : (s.loadBuild a c st n).bus = s.bus := rfl

@[simp] theorem State.loadDecode_cfg (x : List Byte) (n : U16) : (s.loadDecode x n).cfg = s.cfg := rfl
@[simp] theorem State.loadDecode_addr (x : List Byte) (n : U16) : (s.loadDecode x n).addr = s.addr := rfl
@[simp] theorem State.loadDecode_fc (x : List Byte) (n : U16) : (s.loadDecode x n).fc = s.fc := rfl
@[simp] theorem State.loadDecode_start (x : List Byte) (n : U16) : (s.loadDecode x n).start = s.start := rfl
@[simp] theorem State.loadDecode_count (x : List Byte) (n : U16) : (s.loadDecode x n).count = s.count := rfl
@[simp] theorem State.loadDecode_reqcnt (x : List Byte) (n : U16) : (s.loadDecode x n).reqcnt = n := rfl
@[simp] theorem State.loadDecode_input (x : List Byte) (n : U16) : (s.loadDecode x n).input = x := rfl
@[simp] theorem State.loadDecode_crc (x : List Byte) (n : U16) : (s.loadDecode x n).crc = s.crc := rfl
@[simp] theorem State.loadDecode_bi (x : List Byte) (n : U16) : (s.loadDecode x n).bi = s.bi := rfl
@[simp] theorem State.loadDecode_k (x : List Byte) (n : U16) : (s.loadDecode x n).k = s.k := rfl
@[simp] theorem State.loadDecode_txf (x : List Byte) (n : U16) : (s.loadDecode x n).txf = s.txf := rfl
@[simp] theorem State.loadDecode_rxb (x : List Byte) (n : U16) : (s.loadDecode x n).rxb = x := rfl
@[simp] theorem State.loadDecode_regs (x : List Byte) (n : U16) : (s.loadDecode x n).regs = s.regs := rfl
@[simp] theorem State.loadDecode_cst (x : List Byte) (n : U16) : (s.loadDecode x n).cst = s.cst := rfl
@[simp] theorem State.loadDecode_running (x : List Byte) (n : U16) : (s.loadDecode x n).running = s.running := rfl
@[simp] theorem State.loadDecode_out (x : List Byte) (n : U16) : (s.loadDecode x n).out = s.out := rfl
@[simp] theorem State.loadDecode_host (x : List Byte) (n : U16) : (s.loadDecode x n).host = s.host := rfl
@[simp] theorem State.loadDecode_flushAnswers (x : List Byte) (n : U16) : (s.loadDecode x n).flushAnswers = s.flushAnswers := rfl
@[simp] theorem State.loadDecode_writeAnswers (x : List Byte) (n : U16) : (s.loadDecode x n).writeAnswers = s.writeAnswers := rfl
@[simp] theorem State.loadDecode_readAnswers (x : List Byte) (n : U16) : (s.loadDecode x n).readAnswers = s.readAnswers := rfl
@[simp] theorem State.loadDecode_bus (x : List Byte) (n : U16) : (s.loadDecode x n).bus = s.bus := rfl

@[simp] theorem State.loadExchange_cfg (a : Byte) (st n : U16) : (s.loadExchange a st n).cfg = s.cfg := rfl
@[simp] theorem State.loadExchange_addr (a : Byte) (st n : U16) : (s.loadExchange a st n).addr = a := rfl
@[simp] theorem State.loadExchange_fc (a : Byte) (st n : U16) : (s.loadExchange a st n).fc = s.fc := rfl
@[simp] theorem State.loadExchange_start (a : Byte) (st n : U16) : (s.loadExchange a st n).start = st := rfl
@[simp] theorem State.loadExchange_count (a : Byte) (st n : U16) : (s.loadExchange a st n).count = n := rfl
@[simp] theorem State.loadExchange_reqcnt (a : Byte) (st n : U16) : (s.loadExchange a st n).reqcnt = s.reqcnt := rfl
@[simp] theorem State.loadExchange_input (a : Byte) (st n : U16) : (s.loadExchange a st n).input = s.input := rfl
@[simp] theorem State.loadExchange_crc (a : Byte) (st n : U16) : (s.loadExchange a st n).crc = s.crc := rfl
@[simp] theorem State.loadExchange_bi (a : Byte) (st n : U16) : (s.loadExchange a st n).bi = s.bi := rfl
@[simp] theorem State.loadExchange_k (a : Byte) (st n : U16) : (s.loadExchange a st n).k = s.k := rfl
@[simp] theorem State.loadExchange_txf (a : Byte) (st n : U16) : (s.loadExchange a st n).txf = s.txf := rfl
@[simp] theorem State.loadExchange_rxb (a : Byte) (st n : U16) : (s.loadExchange a st n).rxb = s.rxb := rfl
@[simp] theorem State.loadExchange_regs (a : Byte) (st n : U16) : (s.loadExchange a st n).regs = none := rfl
@[simp] theorem State.loadExchange_cst (a : Byte) (st n : U16) : (s.loadExchange a st n).cst = .idle := rfl
@[simp] theorem State.loadExchange_running (a : Byte) (st n : U16) : (s.loadExchange a st n).running = s.running := rfl
@[simp] theorem State.loadExchange_out (a : Byte) (st n : U16) : (s.loadExchange a st n).out = none := rfl
@[simp] theorem State.loadExchange_host (a : Byte) (st n : U16) : (s.loadExchange a st n).host = s.host := rfl
@[simp] theorem State.loadExchange_flushAnswers (a : Byte) (st n : U16) : (s.loadExchange a st n).flushAnswers = s.flushAnswers := rfl
@[simp] theorem State.loadExchange_writeAnswers (a : Byte) (st n : U16) : (s.loadExchange a st n).writeAnswers = s.writeAnswers := rfl
@[simp] theorem State.loadExchange_readAnswers (a : Byte) (st n : U16) : (s.loadExchange a st n).readAnswers = s.readAnswers := rfl
@[simp] theorem State.loadExchange_bus (a : Byte) (st n : U16) : (s.loadExchange a st n).bus = s.bus := rfl

@[simp] theorem State.runChecksum_cfg (x : List Byte) : (s.runChecksum x).cfg = s.cfg := rfl
@[simp] theorem State.runChecksum_addr (x : List Byte) : (s.runChecksum x).addr = s.addr := rfl
@[simp] theorem State.runChecksum_fc (x : List Byte) : (s.runChecksum x).fc = s.fc := rfl
@[simp] theorem State.runChecksum_start (x : List Byte) : (s.runChecksum x).start = s.start := rfl
@[simp] theorem State.runChecksum_count (x : List Byte) : (s.runChecksum x).count = s.count := rfl
@[simp] theorem State.runChecksum_reqcnt (x : List Byte) : (s.runChecksum x).reqcnt = s.reqcnt := rfl
@[simp] theorem State.runChecksum_input (x : List Byte) : (s.runChecksum x).input = s.input := rfl
@[simp] theorem State.runChecksum_crc (x : List Byte) : (s.runChecksum x).crc = crc16 x := rfl
@[simp] theorem State.runChecksum_bi (x : List Byte) : (s.runChecksum x).bi = Config.deadByteIndex x := rfl
@[simp] theorem State.runChecksum_k (x : List Byte) : (s.runChecksum x).k = Config.deadBitCounter x := rfl
@[simp] theorem State.runChecksum_txf (x : List Byte) : (s.runChecksum x).txf = s.txf := rfl
@[simp] theorem State.runChecksum_rxb (x : List Byte) : (s.runChecksum x).rxb = s.rxb := rfl
@[simp] theorem State.runChecksum_regs (x : List Byte) : (s.runChecksum x).regs = s.regs := rfl
@[simp] theorem State.runChecksum_cst (x : List Byte) : (s.runChecksum x).cst = s.cst := rfl
@[simp] theorem State.runChecksum_running (x : List Byte) : (s.runChecksum x).running = s.running := rfl
@[simp] theorem State.runChecksum_out (x : List Byte) : (s.runChecksum x).out = s.out := rfl
@[simp] theorem State.runChecksum_host (x : List Byte) : (s.runChecksum x).host = s.host := rfl
@[simp] theorem State.runChecksum_flushAnswers (x : List Byte) : (s.runChecksum x).flushAnswers = s.flushAnswers := rfl
@[simp] theorem State.runChecksum_writeAnswers (x : List Byte) : (s.runChecksum x).writeAnswers = s.writeAnswers := rfl
@[simp] theorem State.runChecksum_readAnswers (x : List Byte) : (s.runChecksum x).readAnswers = s.readAnswers := rfl
@[simp] theorem State.runChecksum_bus (x : List Byte) : (s.runChecksum x).bus = s.bus := rfl

@[simp] theorem State.complete_cfg (r : Result) : (s.complete r).cfg = s.cfg := rfl
@[simp] theorem State.complete_addr (r : Result) : (s.complete r).addr = s.addr := rfl
@[simp] theorem State.complete_fc (r : Result) : (s.complete r).fc = s.fc := rfl
@[simp] theorem State.complete_start (r : Result) : (s.complete r).start = s.start := rfl
@[simp] theorem State.complete_count (r : Result) : (s.complete r).count = s.count := rfl
@[simp] theorem State.complete_reqcnt (r : Result) : (s.complete r).reqcnt = s.reqcnt := rfl
@[simp] theorem State.complete_input (r : Result) : (s.complete r).input = s.input := rfl
@[simp] theorem State.complete_crc (r : Result) : (s.complete r).crc = s.crc := rfl
@[simp] theorem State.complete_bi (r : Result) : (s.complete r).bi = s.bi := rfl
@[simp] theorem State.complete_k (r : Result) : (s.complete r).k = s.k := rfl
@[simp] theorem State.complete_txf (r : Result) : (s.complete r).txf = s.txf := rfl
@[simp] theorem State.complete_rxb (r : Result) : (s.complete r).rxb = s.rxb := rfl
@[simp] theorem State.complete_regs (r : Result) : (s.complete r).regs = s.regs := rfl
@[simp] theorem State.complete_cst (r : Result) : (s.complete r).cst = s.cst := rfl
@[simp] theorem State.complete_running (r : Result) : (s.complete r).running = none := rfl
@[simp] theorem State.complete_out (r : Result) : (s.complete r).out = some { err := .noError, data := some r } := rfl
@[simp] theorem State.complete_host (r : Result) : (s.complete r).host = s.host := rfl
@[simp] theorem State.complete_flushAnswers (r : Result) : (s.complete r).flushAnswers = s.flushAnswers := rfl
@[simp] theorem State.complete_writeAnswers (r : Result) : (s.complete r).writeAnswers = s.writeAnswers := rfl
@[simp] theorem State.complete_readAnswers (r : Result) : (s.complete r).readAnswers = s.readAnswers := rfl
@[simp] theorem State.complete_bus (r : Result) : (s.complete r).bus = s.bus := rfl

@[simp] theorem State.raise_cfg (e : Err) : (s.raise e).cfg = s.cfg := rfl
@[simp] theorem State.raise_addr (e : Err) : (s.raise e).addr = s.addr := rfl
@[simp] theorem State.raise_fc (e : Err) : (s.raise e).fc = s.fc := rfl
@[simp] theorem State.raise_start (e : Err) : (s.raise e).start = s.start := rfl
@[simp] theorem State.raise_count (e : Err) : (s.raise e).count = s.count := rfl
@[simp] theorem State.raise_reqcnt (e : Err) : (s.raise e).reqcnt = s.reqcnt := rfl
@[simp] theorem State.raise_input (e : Err) : (s.raise e).input = s.input := rfl
@[simp] theorem State.raise_crc (e : Err) : (s.raise e).crc = s.crc := rfl
@[simp] theorem State.raise_bi (e : Err) : (s.raise e).bi = s.bi := rfl
@[simp] theorem State.raise_k (e : Err) : (s.raise e).k = s.k := rfl
@[simp] theorem State.raise_txf (e : Err) : (s.raise e).txf = s.txf := rfl
@[simp] theorem State.raise_rxb (e : Err) : (s.raise e).rxb = s.rxb := rfl
@[simp] theorem State.raise_regs (e : Err) : (s.raise e).regs = s.regs := rfl
@[simp] theorem State.raise_cst (e : Err) : (s.raise e).cst = s.cst := rfl
@[simp] theorem State.raise_running (e : Err) : (s.raise e).running = none := rfl
@[simp] theorem State.raise_out (e : Err) : (s.raise e).out = some { err := e, data := none } := rfl
@[simp] theorem State.raise_host (e : Err) : (s.raise e).host = s.host := rfl
@[simp] theorem State.raise_flushAnswers (e : Err) : (s.raise e).flushAnswers = s.flushAnswers := rfl
@[simp] theorem State.raise_writeAnswers (e : Err) : (s.raise e).writeAnswers = s.writeAnswers := rfl
@[simp] theorem State.raise_readAnswers (e : Err) : (s.raise e).readAnswers = s.readAnswers := rfl
@[simp] theorem State.raise_bus (e : Err) : (s.raise e).bus = s.bus := rfl

@[simp] theorem State.putRequest_cfg (f : List Byte) : (s.putRequest f).cfg = s.cfg := rfl
@[simp] theorem State.putRequest_addr (f : List Byte) : (s.putRequest f).addr = s.addr := rfl
@[simp] theorem State.putRequest_fc (f : List Byte) : (s.putRequest f).fc = s.fc := rfl
@[simp] theorem State.putRequest_start (f : List Byte) : (s.putRequest f).start = s.start := rfl
@[simp] theorem State.putRequest_count (f : List Byte) : (s.putRequest f).count = s.count := rfl
@[simp] theorem State.putRequest_reqcnt (f : List Byte) : (s.putRequest f).reqcnt = s.reqcnt := rfl
@[simp] theorem State.putRequest_input (f : List Byte) : (s.putRequest f).input = s.input := rfl
@[simp] theorem State.putRequest_crc (f : List Byte) : (s.putRequest f).crc = s.crc := rfl
@[simp] theorem State.putRequest_bi (f : List Byte) : (s.putRequest f).bi = s.bi := rfl
@[simp] theorem State.putRequest_k (f : List Byte) : (s.putRequest f).k = s.k := rfl
@[simp] theorem State.putRequest_txf (f : List Byte) : (s.putRequest f).txf = f := rfl
@[simp] theorem State.putRequest_rxb (f : List Byte) : (s.putRequest f).rxb = s.rxb := rfl
@[simp] theorem State.putRequest_regs (f : List Byte) : (s.putRequest f).regs = s.regs := rfl
@[simp] theorem State.putRequest_cst (f : List Byte) : (s.putRequest f).cst = s.cst := rfl
@[simp] theorem State.putRequest_running (f : List Byte) : (s.putRequest f).running = s.running := rfl
@[simp] theorem State.putRequest_out (f : List Byte) : (s.putRequest f).out = s.out := rfl
@[simp] theorem State.putRequest_host (f : List Byte) : (s.putRequest f).host = s.host := rfl
@[simp] theorem State.putRequest_flushAnswers (f : List Byte) : (s.putRequest f).flushAnswers = s.flushAnswers := rfl
@[simp] theorem State.putRequest_writeAnswers (f : List Byte) : (s.putRequest f).writeAnswers = s.writeAnswers := rfl
@[simp] theorem State.putRequest_readAnswers (f : List Byte) : (s.putRequest f).readAnswers = s.readAnswers := rfl
@[simp] theorem State.putRequest_bus (f : List Byte) : (s.putRequest f).bus = s.bus := rfl

@[simp] theorem State.transact_cfg (t : Transaction) : (s.transact t).cfg = s.cfg := rfl
@[simp] theorem State.transact_addr (t : Transaction) : (s.transact t).addr = s.addr := rfl
@[simp] theorem State.transact_fc (t : Transaction) : (s.transact t).fc = s.fc := rfl
@[simp] theorem State.transact_start (t : Transaction) : (s.transact t).start = s.start := rfl
@[simp] theorem State.transact_count (t : Transaction) : (s.transact t).count = s.count := rfl
@[simp] theorem State.transact_reqcnt (t : Transaction) : (s.transact t).reqcnt = s.reqcnt := rfl
@[simp] theorem State.transact_input (t : Transaction) : (s.transact t).input = s.input := rfl
@[simp] theorem State.transact_crc (t : Transaction) : (s.transact t).crc = s.crc := rfl
@[simp] theorem State.transact_bi (t : Transaction) : (s.transact t).bi = s.bi := rfl
@[simp] theorem State.transact_k (t : Transaction) : (s.transact t).k = s.k := rfl
@[simp] theorem State.transact_txf (t : Transaction) : (s.transact t).txf = s.txf := rfl
@[simp] theorem State.transact_rxb (t : Transaction) : (s.transact t).rxb = s.rxb := rfl
@[simp] theorem State.transact_regs (t : Transaction) : (s.transact t).regs = s.regs := rfl
@[simp] theorem State.transact_cst (t : Transaction) : (s.transact t).cst = s.cst := rfl
@[simp] theorem State.transact_running (t : Transaction) : (s.transact t).running = s.running := rfl
@[simp] theorem State.transact_out (t : Transaction) : (s.transact t).out = s.out := rfl
@[simp] theorem State.transact_host (t : Transaction) : (s.transact t).host = s.host := rfl
@[simp] theorem State.transact_flushAnswers (t : Transaction) : (s.transact t).flushAnswers = s.flushAnswers := rfl
@[simp] theorem State.transact_writeAnswers (t : Transaction) : (s.transact t).writeAnswers = s.writeAnswers := rfl
@[simp] theorem State.transact_readAnswers (t : Transaction) : (s.transact t).readAnswers = s.readAnswers := rfl
@[simp] theorem State.transact_bus (t : Transaction) : (s.transact t).bus = s.bus ++ [t] := rfl

@[simp] theorem State.await_cfg (w : Wait) : (s.await w).cfg = s.cfg := rfl
@[simp] theorem State.await_addr (w : Wait) : (s.await w).addr = s.addr := rfl
@[simp] theorem State.await_fc (w : Wait) : (s.await w).fc = s.fc := rfl
@[simp] theorem State.await_start (w : Wait) : (s.await w).start = s.start := rfl
@[simp] theorem State.await_count (w : Wait) : (s.await w).count = s.count := rfl
@[simp] theorem State.await_reqcnt (w : Wait) : (s.await w).reqcnt = s.reqcnt := rfl
@[simp] theorem State.await_input (w : Wait) : (s.await w).input = s.input := rfl
@[simp] theorem State.await_crc (w : Wait) : (s.await w).crc = s.crc := rfl
@[simp] theorem State.await_bi (w : Wait) : (s.await w).bi = s.bi := rfl
@[simp] theorem State.await_k (w : Wait) : (s.await w).k = s.k := rfl
@[simp] theorem State.await_txf (w : Wait) : (s.await w).txf = s.txf := rfl
@[simp] theorem State.await_rxb (w : Wait) : (s.await w).rxb = s.rxb := rfl
@[simp] theorem State.await_regs (w : Wait) : (s.await w).regs = s.regs := rfl
@[simp] theorem State.await_cst (w : Wait) : (s.await w).cst = s.cst := rfl
@[simp] theorem State.await_running (w : Wait) : (s.await w).running = some w := rfl
@[simp] theorem State.await_out (w : Wait) : (s.await w).out = s.out := rfl
@[simp] theorem State.await_host (w : Wait) : (s.await w).host = s.host := rfl
@[simp] theorem State.await_flushAnswers (w : Wait) : (s.await w).flushAnswers = s.flushAnswers := rfl
@[simp] theorem State.await_writeAnswers (w : Wait) : (s.await w).writeAnswers = s.writeAnswers := rfl
@[simp] theorem State.await_readAnswers (w : Wait) : (s.await w).readAnswers = s.readAnswers := rfl
@[simp] theorem State.await_bus (w : Wait) : (s.await w).bus = s.bus := rfl

@[simp] theorem State.flushed_cfg (l : List Status) : (s.flushed l).cfg = s.cfg := rfl
@[simp] theorem State.flushed_addr (l : List Status) : (s.flushed l).addr = s.addr := rfl
@[simp] theorem State.flushed_fc (l : List Status) : (s.flushed l).fc = s.fc := rfl
@[simp] theorem State.flushed_start (l : List Status) : (s.flushed l).start = s.start := rfl
@[simp] theorem State.flushed_count (l : List Status) : (s.flushed l).count = s.count := rfl
@[simp] theorem State.flushed_reqcnt (l : List Status) : (s.flushed l).reqcnt = s.reqcnt := rfl
@[simp] theorem State.flushed_input (l : List Status) : (s.flushed l).input = s.input := rfl
@[simp] theorem State.flushed_crc (l : List Status) : (s.flushed l).crc = s.crc := rfl
@[simp] theorem State.flushed_bi (l : List Status) : (s.flushed l).bi = s.bi := rfl
@[simp] theorem State.flushed_k (l : List Status) : (s.flushed l).k = s.k := rfl
@[simp] theorem State.flushed_txf (l : List Status) : (s.flushed l).txf = s.txf := rfl
@[simp] theorem State.flushed_rxb (l : List Status) : (s.flushed l).rxb = s.rxb := rfl
@[simp] theorem State.flushed_regs (l : List Status) : (s.flushed l).regs = s.regs := rfl
@[simp] theorem State.flushed_cst (l : List Status) : (s.flushed l).cst = s.cst := rfl
@[simp] theorem State.flushed_running (l : List Status) : (s.flushed l).running = none := rfl
@[simp] theorem State.flushed_out (l : List Status) : (s.flushed l).out = s.out := rfl
@[simp] theorem State.flushed_host (l : List Status) : (s.flushed l).host = s.host := rfl
@[simp] theorem State.flushed_flushAnswers (l : List Status) : (s.flushed l).flushAnswers = l := rfl
@[simp] theorem State.flushed_writeAnswers (l : List Status) : (s.flushed l).writeAnswers = s.writeAnswers := rfl
@[simp] theorem State.flushed_readAnswers (l : List Status) : (s.flushed l).readAnswers = s.readAnswers := rfl
@[simp] theorem State.flushed_bus (l : List Status) : (s.flushed l).bus = s.bus := rfl

@[simp] theorem State.written_cfg (l : List WriteAnswer) : (s.written l).cfg = s.cfg := rfl
@[simp] theorem State.written_addr (l : List WriteAnswer) : (s.written l).addr = s.addr := rfl
@[simp] theorem State.written_fc (l : List WriteAnswer) : (s.written l).fc = s.fc := rfl
@[simp] theorem State.written_start (l : List WriteAnswer) : (s.written l).start = s.start := rfl
@[simp] theorem State.written_count (l : List WriteAnswer) : (s.written l).count = s.count := rfl
@[simp] theorem State.written_reqcnt (l : List WriteAnswer) : (s.written l).reqcnt = s.reqcnt := rfl
@[simp] theorem State.written_input (l : List WriteAnswer) : (s.written l).input = s.input := rfl
@[simp] theorem State.written_crc (l : List WriteAnswer) : (s.written l).crc = s.crc := rfl
@[simp] theorem State.written_bi (l : List WriteAnswer) : (s.written l).bi = s.bi := rfl
@[simp] theorem State.written_k (l : List WriteAnswer) : (s.written l).k = s.k := rfl
@[simp] theorem State.written_txf (l : List WriteAnswer) : (s.written l).txf = s.txf := rfl
@[simp] theorem State.written_rxb (l : List WriteAnswer) : (s.written l).rxb = s.rxb := rfl
@[simp] theorem State.written_regs (l : List WriteAnswer) : (s.written l).regs = s.regs := rfl
@[simp] theorem State.written_cst (l : List WriteAnswer) : (s.written l).cst = s.cst := rfl
@[simp] theorem State.written_running (l : List WriteAnswer) : (s.written l).running = none := rfl
@[simp] theorem State.written_out (l : List WriteAnswer) : (s.written l).out = s.out := rfl
@[simp] theorem State.written_host (l : List WriteAnswer) : (s.written l).host = s.host := rfl
@[simp] theorem State.written_flushAnswers (l : List WriteAnswer) : (s.written l).flushAnswers = s.flushAnswers := rfl
@[simp] theorem State.written_writeAnswers (l : List WriteAnswer) : (s.written l).writeAnswers = l := rfl
@[simp] theorem State.written_readAnswers (l : List WriteAnswer) : (s.written l).readAnswers = s.readAnswers := rfl
@[simp] theorem State.written_bus (l : List WriteAnswer) : (s.written l).bus = s.bus := rfl

@[simp] theorem State.awaitResponse_cfg : s.awaitResponse.cfg = s.cfg := rfl
@[simp] theorem State.awaitResponse_addr : s.awaitResponse.addr = s.addr := rfl
@[simp] theorem State.awaitResponse_fc : s.awaitResponse.fc = s.fc := rfl
@[simp] theorem State.awaitResponse_start : s.awaitResponse.start = s.start := rfl
@[simp] theorem State.awaitResponse_count : s.awaitResponse.count = s.count := rfl
@[simp] theorem State.awaitResponse_reqcnt : s.awaitResponse.reqcnt = s.reqcnt := rfl
@[simp] theorem State.awaitResponse_input : s.awaitResponse.input = s.input := rfl
@[simp] theorem State.awaitResponse_crc : s.awaitResponse.crc = s.crc := rfl
@[simp] theorem State.awaitResponse_bi : s.awaitResponse.bi = s.bi := rfl
@[simp] theorem State.awaitResponse_k : s.awaitResponse.k = s.k := rfl
@[simp] theorem State.awaitResponse_txf : s.awaitResponse.txf = s.txf := rfl
@[simp] theorem State.awaitResponse_rxb : s.awaitResponse.rxb = s.rxb := rfl
@[simp] theorem State.awaitResponse_regs : s.awaitResponse.regs = s.regs := rfl
@[simp] theorem State.awaitResponse_cst : s.awaitResponse.cst = .awaitingResponse := rfl
@[simp] theorem State.awaitResponse_running : s.awaitResponse.running = s.running := rfl
@[simp] theorem State.awaitResponse_out : s.awaitResponse.out = s.out := rfl
@[simp] theorem State.awaitResponse_host : s.awaitResponse.host = s.host := rfl
@[simp] theorem State.awaitResponse_flushAnswers : s.awaitResponse.flushAnswers = s.flushAnswers := rfl
@[simp] theorem State.awaitResponse_writeAnswers : s.awaitResponse.writeAnswers = s.writeAnswers := rfl
@[simp] theorem State.awaitResponse_readAnswers : s.awaitResponse.readAnswers = s.readAnswers := rfl
@[simp] theorem State.awaitResponse_bus : s.awaitResponse.bus = s.bus := rfl

@[simp] theorem State.received_cfg (b : List Byte) (l : List ReadAnswer) : (s.received b l).cfg = s.cfg := rfl
@[simp] theorem State.received_addr (b : List Byte) (l : List ReadAnswer) : (s.received b l).addr = s.addr := rfl
@[simp] theorem State.received_fc (b : List Byte) (l : List ReadAnswer) : (s.received b l).fc = s.fc := rfl
@[simp] theorem State.received_start (b : List Byte) (l : List ReadAnswer) : (s.received b l).start = s.start := rfl
@[simp] theorem State.received_count (b : List Byte) (l : List ReadAnswer) : (s.received b l).count = s.count := rfl
@[simp] theorem State.received_reqcnt (b : List Byte) (l : List ReadAnswer) : (s.received b l).reqcnt = s.reqcnt := rfl
@[simp] theorem State.received_input (b : List Byte) (l : List ReadAnswer) : (s.received b l).input = s.input := rfl
@[simp] theorem State.received_crc (b : List Byte) (l : List ReadAnswer) : (s.received b l).crc = s.crc := rfl
@[simp] theorem State.received_bi (b : List Byte) (l : List ReadAnswer) : (s.received b l).bi = s.bi := rfl
@[simp] theorem State.received_k (b : List Byte) (l : List ReadAnswer) : (s.received b l).k = s.k := rfl
@[simp] theorem State.received_txf (b : List Byte) (l : List ReadAnswer) : (s.received b l).txf = s.txf := rfl
@[simp] theorem State.received_rxb (b : List Byte) (l : List ReadAnswer) : (s.received b l).rxb = b := rfl
@[simp] theorem State.received_regs (b : List Byte) (l : List ReadAnswer) : (s.received b l).regs = s.regs := rfl
@[simp] theorem State.received_cst (b : List Byte) (l : List ReadAnswer) : (s.received b l).cst = .idle := rfl
@[simp] theorem State.received_running (b : List Byte) (l : List ReadAnswer) : (s.received b l).running = none := rfl
@[simp] theorem State.received_out (b : List Byte) (l : List ReadAnswer) : (s.received b l).out = s.out := rfl
@[simp] theorem State.received_host (b : List Byte) (l : List ReadAnswer) : (s.received b l).host = s.host := rfl
@[simp] theorem State.received_flushAnswers (b : List Byte) (l : List ReadAnswer) : (s.received b l).flushAnswers = s.flushAnswers := rfl
@[simp] theorem State.received_writeAnswers (b : List Byte) (l : List ReadAnswer) : (s.received b l).writeAnswers = s.writeAnswers := rfl
@[simp] theorem State.received_readAnswers (b : List Byte) (l : List ReadAnswer) : (s.received b l).readAnswers = l := rfl
@[simp] theorem State.received_bus (b : List Byte) (l : List ReadAnswer) : (s.received b l).bus = s.bus := rfl

@[simp] theorem State.withEnvironment_cfg (h : List IssueWord) (fl : List Status) (wr : List WriteAnswer) (rd : List ReadAnswer) : (s.withEnvironment h fl wr rd).cfg = s.cfg := rfl
@[simp] theorem State.withEnvironment_addr (h : List IssueWord) (fl : List Status) (wr : List WriteAnswer) (rd : List ReadAnswer) : (s.withEnvironment h fl wr rd).addr = s.addr := rfl
@[simp] theorem State.withEnvironment_fc (h : List IssueWord) (fl : List Status) (wr : List WriteAnswer) (rd : List ReadAnswer) : (s.withEnvironment h fl wr rd).fc = s.fc := rfl
@[simp] theorem State.withEnvironment_start (h : List IssueWord) (fl : List Status) (wr : List WriteAnswer) (rd : List ReadAnswer) : (s.withEnvironment h fl wr rd).start = s.start := rfl
@[simp] theorem State.withEnvironment_count (h : List IssueWord) (fl : List Status) (wr : List WriteAnswer) (rd : List ReadAnswer) : (s.withEnvironment h fl wr rd).count = s.count := rfl
@[simp] theorem State.withEnvironment_reqcnt (h : List IssueWord) (fl : List Status) (wr : List WriteAnswer) (rd : List ReadAnswer) : (s.withEnvironment h fl wr rd).reqcnt = s.reqcnt := rfl
@[simp] theorem State.withEnvironment_input (h : List IssueWord) (fl : List Status) (wr : List WriteAnswer) (rd : List ReadAnswer) : (s.withEnvironment h fl wr rd).input = s.input := rfl
@[simp] theorem State.withEnvironment_crc (h : List IssueWord) (fl : List Status) (wr : List WriteAnswer) (rd : List ReadAnswer) : (s.withEnvironment h fl wr rd).crc = s.crc := rfl
@[simp] theorem State.withEnvironment_bi (h : List IssueWord) (fl : List Status) (wr : List WriteAnswer) (rd : List ReadAnswer) : (s.withEnvironment h fl wr rd).bi = s.bi := rfl
@[simp] theorem State.withEnvironment_k (h : List IssueWord) (fl : List Status) (wr : List WriteAnswer) (rd : List ReadAnswer) : (s.withEnvironment h fl wr rd).k = s.k := rfl
@[simp] theorem State.withEnvironment_txf (h : List IssueWord) (fl : List Status) (wr : List WriteAnswer) (rd : List ReadAnswer) : (s.withEnvironment h fl wr rd).txf = s.txf := rfl
@[simp] theorem State.withEnvironment_rxb (h : List IssueWord) (fl : List Status) (wr : List WriteAnswer) (rd : List ReadAnswer) : (s.withEnvironment h fl wr rd).rxb = s.rxb := rfl
@[simp] theorem State.withEnvironment_regs (h : List IssueWord) (fl : List Status) (wr : List WriteAnswer) (rd : List ReadAnswer) : (s.withEnvironment h fl wr rd).regs = s.regs := rfl
@[simp] theorem State.withEnvironment_cst (h : List IssueWord) (fl : List Status) (wr : List WriteAnswer) (rd : List ReadAnswer) : (s.withEnvironment h fl wr rd).cst = s.cst := rfl
@[simp] theorem State.withEnvironment_running (h : List IssueWord) (fl : List Status) (wr : List WriteAnswer) (rd : List ReadAnswer) : (s.withEnvironment h fl wr rd).running = s.running := rfl
@[simp] theorem State.withEnvironment_out (h : List IssueWord) (fl : List Status) (wr : List WriteAnswer) (rd : List ReadAnswer) : (s.withEnvironment h fl wr rd).out = s.out := rfl
@[simp] theorem State.withEnvironment_host (h : List IssueWord) (fl : List Status) (wr : List WriteAnswer) (rd : List ReadAnswer) : (s.withEnvironment h fl wr rd).host = h := rfl
@[simp] theorem State.withEnvironment_flushAnswers (h : List IssueWord) (fl : List Status) (wr : List WriteAnswer) (rd : List ReadAnswer) : (s.withEnvironment h fl wr rd).flushAnswers = fl := rfl
@[simp] theorem State.withEnvironment_writeAnswers (h : List IssueWord) (fl : List Status) (wr : List WriteAnswer) (rd : List ReadAnswer) : (s.withEnvironment h fl wr rd).writeAnswers = wr := rfl
@[simp] theorem State.withEnvironment_readAnswers (h : List IssueWord) (fl : List Status) (wr : List WriteAnswer) (rd : List ReadAnswer) : (s.withEnvironment h fl wr rd).readAnswers = rd := rfl
@[simp] theorem State.withEnvironment_bus (h : List IssueWord) (fl : List Status) (wr : List WriteAnswer) (rd : List ReadAnswer) : (s.withEnvironment h fl wr rd).bus = s.bus := rfl

end Sys2Proof.Machine
end

