-- ==== Sys2Proof/Laws/Machine.lean ====
section
/-! SUPPORT. One lemma for each shared operation that says once what it can do: issue, the end of a decode, the decoder's and the verifier's steps, the phases of an exchange, and one step of the machine. -/

namespace Sys2Proof.Machine

theorem whenFree_of_free (s : State) (go : Host.Outcome State Fault Refusal) (h : s.running = none) :
    whenFree s go = go := by
  simp [whenFree, h]

theorem whenFree_of_running (s : State) (go : Host.Outcome State Fault Refusal) (w : Wait)
    (h : s.running = some w) : whenFree s go = .refused .issuedWhileBusy := by
  simp [whenFree, h]

/-- An issue answers a next state only when the block is free. -/
theorem whenFree_cases {s t : State} {go : Host.Outcome State Fault Refusal}
    (h : whenFree s go = .next t) : s.running = none ∧ go = .next t := by
  unfold whenFree at h
  split at h
  · exact ⟨‹_›, h⟩
  · cases h

/-- A decode that ends well delivers its registers. -/
theorem State.deliver_ok (s : State) (regs : List U16) :
    s.deliver (.ok regs) = { s with regs := some regs }.complete (.registers regs) := rfl

/-- A decode that ends with an error delivers none. -/
theorem State.deliver_error (s : State) (e : Err) :
    s.deliver (.error e) = { s with regs := none }.raise e := rfl

/-- What the end of a decode can be. -/
theorem State.deliver_cases (s : State) (v : Except Err (List U16)) :
    (∃ regs, v = .ok regs ∧ s.deliver v =
      { s with regs := some regs, running := none,
               out := some { err := .noError, data := some (.registers regs) } }) ∨
    (∃ e, v = .error e ∧ s.deliver v =
      { s with regs := none, running := none, out := some { err := e, data := none } }) := by
  cases v with
  | ok regs => exact .inl ⟨regs, rfl, rfl⟩
  | error e => exact .inr ⟨e, rfl, rfl⟩

/-- What the verifier can do: below 2 bytes an error before any checksum, else `VALID`. -/
theorem State.verifyFrame_cases (s : State) (f : List Byte) :
    (f.length < 2 ∧ s.verifyFrame f = (s.loadInput f).raise .malformedFrame) ∨
    (2 ≤ f.length ∧ s.verifyFrame f =
      ((s.loadInput f).runChecksum (payloadPrefix f)).complete (.validity (ownChecksum f))) := by
  unfold State.verifyFrame verifyVerdict
  by_cases h : f.length < 2
  · exact .inl ⟨h, by simp [h]⟩
  · exact .inr ⟨by omega, by simp [h]⟩

/-- The decoder's verdicts, one for each outcome, in the order of the checks. -/
theorem decodeVerdict_cases (cb : Bool) (f : List Byte) :
    (f.length < 5 ∧ decodeVerdict cb f = .error .malformedFrame) ∨
    (5 ≤ f.length ∧ ownChecksum f = false ∧ decodeVerdict cb f = .error .crcMismatch) ∨
    (5 ≤ f.length ∧ ownChecksum f = true ∧ cb = true ∧ byteCountAgrees f = false ∧
      decodeVerdict cb f = .error .malformedFrame) ∨
    (5 ≤ f.length ∧ ownChecksum f = true ∧ (cb = false ∨ byteCountAgrees f = true) ∧
      decodeVerdict cb f = .ok (extractRegs f)) := by
  unfold decodeVerdict
  by_cases h : f.length < 5
  · exact .inl ⟨h, by simp [h]⟩
  · have h' : 5 ≤ f.length := by omega
    cases hc : ownChecksum f
    · exact .inr (.inl ⟨h', rfl, by simp [h]⟩)
    · cases cb <;> cases hb : byteCountAgrees f <;> simp [h, h']

/-- No verdict of the decoder is `None` with an error, or a transport error. -/
theorem decodeVerdict_error {cb : Bool} {f : List Byte} {e : Err} (h : decodeVerdict cb f = .error e) :
    e = .malformedFrame ∨ e = .crcMismatch := by
  obtain ⟨-, h'⟩ | ⟨-, -, h'⟩ | ⟨-, -, -, -, h'⟩ | ⟨-, -, -, h'⟩ := decodeVerdict_cases cb f <;>
    rw [h] at h' <;> cases h' <;> simp

theorem State.decodeResponse_short (s : State) (f : List Byte) (n : U16) (h : f.length < 5) :
    s.decodeResponse f n = (s.loadDecode f n).deliver (.error .malformedFrame) := by
  simp [State.decodeResponse, decodeVerdict, h]

theorem State.decodeResponse_long (s : State) (f : List Byte) (n : U16) (h : 5 ≤ f.length) :
    s.decodeResponse f n =
      ((s.loadDecode f n).runChecksum (payloadPrefix f)).deliver (decodeVerdict s.cfg.checkByteCount f) := by
  simp [State.decodeResponse, Nat.not_lt.mpr h]

@[simp] theorem State.deliver_cfg (s : State) (v : Except Err (List U16)) : (s.deliver v).cfg = s.cfg := by
  cases v <;> rfl

@[simp] theorem State.deliver_addr (s : State) (v : Except Err (List U16)) : (s.deliver v).addr = s.addr := by
  cases v <;> rfl

@[simp] theorem State.deliver_fc (s : State) (v : Except Err (List U16)) : (s.deliver v).fc = s.fc := by
  cases v <;> rfl

@[simp] theorem State.deliver_start (s : State) (v : Except Err (List U16)) : (s.deliver v).start = s.start := by
  cases v <;> rfl

@[simp] theorem State.deliver_count (s : State) (v : Except Err (List U16)) : (s.deliver v).count = s.count := by
  cases v <;> rfl

@[simp] theorem State.deliver_txf (s : State) (v : Except Err (List U16)) : (s.deliver v).txf = s.txf := by
  cases v <;> rfl

@[simp] theorem State.deliver_cst (s : State) (v : Except Err (List U16)) : (s.deliver v).cst = s.cst := by
  cases v <;> rfl

@[simp] theorem State.deliver_host (s : State) (v : Except Err (List U16)) : (s.deliver v).host = s.host := by
  cases v <;> rfl

@[simp] theorem State.deliver_flushAnswers (s : State) (v : Except Err (List U16)) : (s.deliver v).flushAnswers = s.flushAnswers := by
  cases v <;> rfl

@[simp] theorem State.deliver_writeAnswers (s : State) (v : Except Err (List U16)) : (s.deliver v).writeAnswers = s.writeAnswers := by
  cases v <;> rfl

@[simp] theorem State.deliver_readAnswers (s : State) (v : Except Err (List U16)) : (s.deliver v).readAnswers = s.readAnswers := by
  cases v <;> rfl

@[simp] theorem State.deliver_bus (s : State) (v : Except Err (List U16)) : (s.deliver v).bus = s.bus := by
  cases v <;> rfl

@[simp] theorem State.deliver_running (s : State) (v : Except Err (List U16)) : (s.deliver v).running = none := by
  cases v <;> rfl

@[simp] theorem State.decodeResponse_cfg (s : State) (b : List Byte) (n : U16) :
    (s.decodeResponse b n).cfg = s.cfg := by
  simp only [State.decodeResponse]; split <;> simp

@[simp] theorem State.decodeResponse_addr (s : State) (b : List Byte) (n : U16) :
    (s.decodeResponse b n).addr = s.addr := by
  simp only [State.decodeResponse]; split <;> simp

@[simp] theorem State.decodeResponse_fc (s : State) (b : List Byte) (n : U16) :
    (s.decodeResponse b n).fc = s.fc := by
  simp only [State.decodeResponse]; split <;> simp

@[simp] theorem State.decodeResponse_start (s : State) (b : List Byte) (n : U16) :
    (s.decodeResponse b n).start = s.start := by
  simp only [State.decodeResponse]; split <;> simp

@[simp] theorem State.decodeResponse_count (s : State) (b : List Byte) (n : U16) :
    (s.decodeResponse b n).count = s.count := by
  simp only [State.decodeResponse]; split <;> simp

@[simp] theorem State.decodeResponse_txf (s : State) (b : List Byte) (n : U16) :
    (s.decodeResponse b n).txf = s.txf := by
  simp only [State.decodeResponse]; split <;> simp

@[simp] theorem State.decodeResponse_cst (s : State) (b : List Byte) (n : U16) :
    (s.decodeResponse b n).cst = s.cst := by
  simp only [State.decodeResponse]; split <;> simp

@[simp] theorem State.decodeResponse_host (s : State) (b : List Byte) (n : U16) :
    (s.decodeResponse b n).host = s.host := by
  simp only [State.decodeResponse]; split <;> simp

@[simp] theorem State.decodeResponse_flushAnswers (s : State) (b : List Byte) (n : U16) :
    (s.decodeResponse b n).flushAnswers = s.flushAnswers := by
  simp only [State.decodeResponse]; split <;> simp

@[simp] theorem State.decodeResponse_writeAnswers (s : State) (b : List Byte) (n : U16) :
    (s.decodeResponse b n).writeAnswers = s.writeAnswers := by
  simp only [State.decodeResponse]; split <;> simp

@[simp] theorem State.decodeResponse_readAnswers (s : State) (b : List Byte) (n : U16) :
    (s.decodeResponse b n).readAnswers = s.readAnswers := by
  simp only [State.decodeResponse]; split <;> simp

@[simp] theorem State.decodeResponse_bus (s : State) (b : List Byte) (n : U16) :
    (s.decodeResponse b n).bus = s.bus := by
  simp only [State.decodeResponse]; split <;> simp

@[simp] theorem State.decodeResponse_running (s : State) (b : List Byte) (n : U16) :
    (s.decodeResponse b n).running = none := by
  simp [State.decodeResponse]

@[simp] theorem State.verifyFrame_cfg (s : State) (b : List Byte) : (s.verifyFrame b).cfg = s.cfg := by
  simp only [State.verifyFrame]; split <;> simp

@[simp] theorem State.verifyFrame_addr (s : State) (b : List Byte) : (s.verifyFrame b).addr = s.addr := by
  simp only [State.verifyFrame]; split <;> simp

@[simp] theorem State.verifyFrame_fc (s : State) (b : List Byte) : (s.verifyFrame b).fc = s.fc := by
  simp only [State.verifyFrame]; split <;> simp

@[simp] theorem State.verifyFrame_start (s : State) (b : List Byte) : (s.verifyFrame b).start = s.start := by
  simp only [State.verifyFrame]; split <;> simp

@[simp] theorem State.verifyFrame_count (s : State) (b : List Byte) : (s.verifyFrame b).count = s.count := by
  simp only [State.verifyFrame]; split <;> simp

@[simp] theorem State.verifyFrame_txf (s : State) (b : List Byte) : (s.verifyFrame b).txf = s.txf := by
  simp only [State.verifyFrame]; split <;> simp

@[simp] theorem State.verifyFrame_cst (s : State) (b : List Byte) : (s.verifyFrame b).cst = s.cst := by
  simp only [State.verifyFrame]; split <;> simp

@[simp] theorem State.verifyFrame_host (s : State) (b : List Byte) : (s.verifyFrame b).host = s.host := by
  simp only [State.verifyFrame]; split <;> simp

@[simp] theorem State.verifyFrame_flushAnswers (s : State) (b : List Byte) : (s.verifyFrame b).flushAnswers = s.flushAnswers := by
  simp only [State.verifyFrame]; split <;> simp

@[simp] theorem State.verifyFrame_writeAnswers (s : State) (b : List Byte) : (s.verifyFrame b).writeAnswers = s.writeAnswers := by
  simp only [State.verifyFrame]; split <;> simp

@[simp] theorem State.verifyFrame_readAnswers (s : State) (b : List Byte) : (s.verifyFrame b).readAnswers = s.readAnswers := by
  simp only [State.verifyFrame]; split <;> simp

@[simp] theorem State.verifyFrame_bus (s : State) (b : List Byte) : (s.verifyFrame b).bus = s.bus := by
  simp only [State.verifyFrame]; split <;> simp

@[simp] theorem State.verifyFrame_reqcnt (s : State) (b : List Byte) : (s.verifyFrame b).reqcnt = s.reqcnt := by
  simp only [State.verifyFrame]; split <;> simp

@[simp] theorem State.verifyFrame_rxb (s : State) (b : List Byte) : (s.verifyFrame b).rxb = s.rxb := by
  simp only [State.verifyFrame]; split <;> simp

@[simp] theorem State.verifyFrame_regs (s : State) (b : List Byte) : (s.verifyFrame b).regs = s.regs := by
  simp only [State.verifyFrame]; split <;> simp

@[simp] theorem State.verifyFrame_running (s : State) (b : List Byte) : (s.verifyFrame b).running = none := by
  simp only [State.verifyFrame]; split <;> simp

@[simp] theorem State.buildRequest_cfg (s : State) (c : Byte) : (s.buildRequest c).cfg = s.cfg := rfl

@[simp] theorem State.buildRequest_addr (s : State) (c : Byte) : (s.buildRequest c).addr = s.addr := rfl

@[simp] theorem State.buildRequest_fc (s : State) (c : Byte) : (s.buildRequest c).fc = s.fc := rfl

@[simp] theorem State.buildRequest_start (s : State) (c : Byte) : (s.buildRequest c).start = s.start := rfl

@[simp] theorem State.buildRequest_count (s : State) (c : Byte) : (s.buildRequest c).count = s.count := rfl

@[simp] theorem State.buildRequest_reqcnt (s : State) (c : Byte) : (s.buildRequest c).reqcnt = s.reqcnt := rfl

@[simp] theorem State.buildRequest_input (s : State) (c : Byte) : (s.buildRequest c).input = s.input := rfl

@[simp] theorem State.buildRequest_rxb (s : State) (c : Byte) : (s.buildRequest c).rxb = s.rxb := rfl

@[simp] theorem State.buildRequest_regs (s : State) (c : Byte) : (s.buildRequest c).regs = s.regs := rfl

@[simp] theorem State.buildRequest_cst (s : State) (c : Byte) : (s.buildRequest c).cst = s.cst := rfl

@[simp] theorem State.buildRequest_running (s : State) (c : Byte) : (s.buildRequest c).running = s.running := rfl

@[simp] theorem State.buildRequest_out (s : State) (c : Byte) : (s.buildRequest c).out = s.out := rfl

@[simp] theorem State.buildRequest_host (s : State) (c : Byte) : (s.buildRequest c).host = s.host := rfl

@[simp] theorem State.buildRequest_flushAnswers (s : State) (c : Byte) : (s.buildRequest c).flushAnswers = s.flushAnswers := rfl

@[simp] theorem State.buildRequest_writeAnswers (s : State) (c : Byte) : (s.buildRequest c).writeAnswers = s.writeAnswers := rfl

@[simp] theorem State.buildRequest_readAnswers (s : State) (c : Byte) : (s.buildRequest c).readAnswers = s.readAnswers := rfl

@[simp] theorem State.buildRequest_bus (s : State) (c : Byte) : (s.buildRequest c).bus = s.bus := rfl

@[simp] theorem State.buildRequest_txf (s : State) (c : Byte) :
    (s.buildRequest c).txf = requestFrame s.addr c s.start s.count := rfl

/-- A decode leaves exactly its verdict in the output and in `REGS`. -/
theorem State.decodeResponse_verdict (s : State) (f : List Byte) (n : U16) :
    (s.decodeResponse f n).out = some (match decodeVerdict s.cfg.checkByteCount f with
      | .ok regs => { err := .noError, data := some (.registers regs) }
      | .error e => { err := e, data := none }) ∧
    (s.decodeResponse f n).regs = (match decodeVerdict s.cfg.checkByteCount f with
      | .ok regs => some regs
      | .error _ => none) := by
  simp only [State.decodeResponse]
  cases decodeVerdict s.cfg.checkByteCount f <;> simp [State.deliver]

/-- A decode leaves its operands in their registers, the bytes in `RXB` too. -/
theorem State.decodeResponse_operands (s : State) (f : List Byte) (n : U16) :
    (s.decodeResponse f n).input = f ∧ (s.decodeResponse f n).rxb = f ∧
      (s.decodeResponse f n).reqcnt = n := by
  simp only [State.decodeResponse]
  cases decodeVerdict s.cfg.checkByteCount f <;> split <;> simp [State.deliver]

/-- The number of registers of a response is the computed count. -/
theorem extractRegs_length (f : List Byte) : (extractRegs f).length = computedCount f := by
  simp [extractRegs, regsOfData_length, payloadPrefix, computedCount]
  omega

/-- What an exchange does once its read is issued. -/
theorem afterRead_cases {s t : State} (h : afterRead s = .next t) :
    (s.readAnswers = [] ∧ t = s.await .read) ∨
    ∃ a rest, s.readAnswers = a :: rest ∧ a.bytes.length ≤ responseLength s.count ∧
      ((a.status = .error ∧ t = (s.received a.bytes rest).raise .transportRead) ∨
       (a.status = .ok ∧ t = (s.received a.bytes rest).decodeResponse a.bytes s.count)) := by
  unfold afterRead at h
  split at h
  · cases h; exact .inl ⟨‹_›, rfl⟩
  · next a rest ha =>
    split at h
    · cases h
    · refine .inr ⟨a, rest, ha, by omega, ?_⟩
      split at h <;> cases h
      · exact .inl ⟨‹_›, rfl⟩
      · exact .inr ⟨‹_›, rfl⟩

/-- What an exchange does once its write is issued. -/
theorem afterWrite_cases {s t : State} (h : afterWrite s = .next t) :
    (s.writeAnswers = [] ∧ t = s.await .write) ∨
    ∃ a rest, s.writeAnswers = a :: rest ∧ a.accepted ≤ requestLength ∧
      (((a.status = .error ∨ a.accepted < requestLength) ∧ t = (s.written rest).raise .transportWrite) ∨
       (a.status = .ok ∧ a.accepted = requestLength ∧
        afterRead ((s.written rest).awaitResponse.transact (.read (responseLength s.count))) = .next t)) := by
  unfold afterWrite at h
  split at h
  · cases h; exact .inl ⟨‹_›, rfl⟩
  · next a rest ha =>
    split at h
    · cases h
    · refine .inr ⟨a, rest, ha, by omega, ?_⟩
      split at h
      · cases h; exact .inl ⟨‹_›, rfl⟩
      · next hn =>
        have hs : a.status ≠ .error := fun c => hn (.inl c)
        have hl : ¬ a.accepted < requestLength := fun c => hn (.inr c)
        refine .inr ⟨?_, by omega, h⟩
        cases hst : a.status
        · rfl
        · exact absurd hst hs

/-- What an exchange does once its flush is issued. -/
theorem afterFlush_cases {s t : State} (h : afterFlush s = .next t) :
    (s.flushAnswers = [] ∧ t = s.await .flush) ∨
    ∃ a rest, s.flushAnswers = a :: rest ∧
      ((a = .error ∧ s.cfg.flushErrAborts = true ∧ t = (s.flushed rest).raise .transportFlush) ∨
       ((a = .ok ∨ s.cfg.flushErrAborts = false) ∧ buildAndWrite (s.flushed rest) = .next t)) := by
  unfold afterFlush at h
  split at h
  · cases h; exact .inl ⟨‹_›, rfl⟩
  · next a rest ha =>
    refine .inr ⟨a, rest, ha, ?_⟩
    split at h
    · next hc => cases h; exact .inl ⟨hc.1, hc.2, rfl⟩
    · next hc =>
      refine .inr ⟨?_, h⟩
      cases a <;> cases hf : s.cfg.flushErrAborts <;> simp_all

/-- What the issue of an exchange does. -/
theorem execClientRhr_cases {addr : Byte} {start count : U16} {s t : State}
    (h : execClientRhr addr start count s = .next t) :
    s.running = none ∧ responseLength count ≤ s.cfg.rxCap ∧
      ((s.cfg.flushEn = true ∧ afterFlush ((s.loadExchange addr start count).transact .flush) = .next t) ∨
       (s.cfg.flushEn = false ∧ buildAndWrite (s.loadExchange addr start count) = .next t)) := by
  obtain ⟨hr, h⟩ := whenFree_cases h
  split at h
  · cases h
  · refine ⟨hr, by omega, ?_⟩
    split at h
    · exact .inl ⟨‹_›, h⟩
    · next hn => exact .inr ⟨Bool.eq_false_iff.mpr hn, h⟩

/-- A free block whose exchange fits and whose flush passes gets to its write, with one answer taken and one
transaction issued where the flush is enabled. -/
theorem execClientRhr_of_flushPasses {addr : Byte} {start count : U16} {s : State}
    (hr : s.running = none) (hc : responseLength count ≤ s.cfg.rxCap) (hf : s.FlushPasses) :
    execClientRhr addr start count s = buildAndWrite { s.loadExchange addr start count with
      flushAnswers := s.flushRest
      bus := s.bus ++ (if s.cfg.flushEn = true then [.flush] else []) } := by
  rw [execClientRhr, whenFree_of_free _ _ hr, if_neg (by omega)]
  cases he : s.cfg.flushEn
  · simp [State.flushRest, State.loadExchange, he]
  · obtain ⟨a, rest, ha, hp⟩ := hf he
    have hn : ¬ (a = .error ∧ s.cfg.flushErrAborts = true) := by
      rintro ⟨rfl, h⟩
      rcases hp with hp | hp
      · cases hp
      · rw [h] at hp; cases hp
    simp [afterFlush, State.flushRest, State.loadExchange, State.transact, State.flushed, he, ha, hn, hr]

/-- A write answered without error with all 8 bytes leads to the read. -/
theorem afterWrite_of_accepted {s : State} {rest : List WriteAnswer}
    (h : s.writeAnswers = { accepted := requestLength, status := .ok } :: rest) :
    afterWrite s =
      afterRead ((s.written rest).awaitResponse.transact (.read (responseLength s.count))) := by
  simp [afterWrite, h]

/-- A read answered without error within the buffer leads to the decoder. -/
theorem afterRead_of_ok {s : State} {b : List Byte} {rest : List ReadAnswer}
    (h : s.readAnswers = { bytes := b, status := .ok } :: rest) (hb : b.length ≤ responseLength s.count) :
    afterRead s = .next ((s.received b rest).decodeResponse b s.count) := by
  simp [afterRead, h, Nat.not_lt.mpr hb]

/-- What a waiting exchange can do: it goes on only with an answer to what it waits for. -/
theorem resumeExchange_cases {w : Wait} {s t : State} (h : resumeExchange w s = .next t) :
    (w = .flush ∧ s.flushAnswers ≠ [] ∧ afterFlush s = .next t) ∨
    (w = .write ∧ s.writeAnswers ≠ [] ∧ afterWrite s = .next t) ∨
    (w = .read ∧ s.readAnswers ≠ [] ∧ afterRead s = .next t) := by
  unfold resumeExchange at h
  cases w <;> simp only at h <;> split at h <;> simp_all

/-- What one step of the machine can do when it answers a next state. -/
theorem step_cases {s t : State} (h : step s = .next t) :
    (∃ w, s.running = some w ∧ resumeExchange w s = .next t) ∨
    (s.running = none ∧ s.host = [] ∧ t = s) ∨
    (∃ word rest i, s.running = none ∧ s.host = word :: rest ∧ decode word = .ok i ∧
      exec i { s with host := rest } = .next t) := by
  unfold step at h
  split at h
  · exact .inl ⟨_, ‹_›, h⟩
  · split at h
    · cases h; exact .inr (.inl ⟨‹_›, ‹_›, rfl⟩)
    · split at h
      · cases h
      · exact .inr (.inr ⟨_, _, _, ‹_›, ‹_›, ‹_›, h⟩)

end Sys2Proof.Machine
end

