-- ==== Sys2Proof/Laws/PerInstr.lean ====
section
/-! SUPPORT. Statements for all instructions, one lemma for each constructor. RowPattern: an encoded instruction fits the pattern of its row's format in the opcode table (spec/30_encoding.md rules R81, R82, R85, R86). -/

namespace Sys2Proof.Laws.RowPattern

open Sys2Proof.Machine

/-- The word of an instruction fits its format: an operation code up to `0x04`; 8 bytes with function code
3 or 16; an odd number of bytes, at least 5, with function code 3. -/
def Statement (i : Instr) : Prop :=
  match (encode i).fmt with
  | .cmd => ∃ op rest, (encode i).bytes = op :: rest ∧ op.toNat ≤ 4
  | .req8 => (encode i).bytes.length = 8 ∧
      ((encode i).bytes[1]? = some 0x03#8 ∨ (encode i).bytes[1]? = some 0x10#8)
  | .rspv => (encode i).bytes.length % 2 = 1 ∧ 5 ≤ (encode i).bytes.length ∧
      (encode i).bytes[1]? = some 0x03#8

theorem crcCompute (input : List Byte) : Statement (.crcCompute input) := ⟨_, _, rfl, by decide⟩

theorem crcVerify (input : List Byte) : Statement (.crcVerify input) := ⟨_, _, rfl, by decide⟩

theorem frameBuild (addr fc : Byte) (start count : U16) : Statement (.frameBuild addr fc start count) :=
  ⟨_, _, rfl, by decide⟩

theorem frameDecode (input : List Byte) (reqcnt : U16) : Statement (.frameDecode input reqcnt) :=
  ⟨_, _, rfl, by decide⟩

theorem clientRhr (addr : Byte) (start count : U16) : Statement (.clientRhr addr start count) :=
  ⟨_, _, rfl, by decide⟩

theorem reqFc03 (addr : Byte) (start count : U16) (crcLo crcHi : Byte) :
    Statement (.reqFc03 addr start count crcLo crcHi) := ⟨rfl, .inl rfl⟩

theorem rspFc03 (addr byteCount : Byte) (regs : List U16) (crcLo crcHi : Byte) :
    Statement (.rspFc03 addr byteCount regs crcLo crcHi) := by
  simp only [Statement, encode, rspFc03Bytes, responsePrefix]
  exact ⟨by simp; omega, by simp, rfl⟩

theorem reqFc16 (addr d2 d3 d4 d5 crcLo crcHi : Byte) :
    Statement (.reqFc16 addr d2 d3 d4 d5 crcLo crcHi) := ⟨rfl, .inr rfl⟩

end Sys2Proof.Laws.RowPattern
end

