-- ==== Sys2Proof/Tests/Slice0.lean ====
section
/-! SUPPORT. The model's own tests: the checks of WellFormed refuse, words written out from the spec's encodings decode, one step of each instruction on the vectors of spec/95_test_vectors.md, and for every statement with hypotheses a state and operands that meet them. -/

namespace Sys2Proof.Tests

open Sys2Proof.Machine

/-- The next state of an outcome. -/
def nextOf (o : Host.Outcome State Fault Refusal) : Option State :=
  match o with
  | .next t => some t
  | _ => none

/-- The refusal of an outcome. -/
def refusalOf (o : Host.Outcome State Fault Refusal) : Option Refusal :=
  match o with
  | .refused r => some r
  | _ => none

/-- Reset with these words issued. -/
def issuing (host : List IssueWord) : State := { State.reset with host := host }

/-- The request of S2. -/
def frameS2 : List Byte := [0x01#8, 0x03#8, 0x00#8, 0x00#8, 0x00#8, 0x08#8, 0x44#8, 0x0C#8]

/-- A free state in which an earlier operation left something behind. -/
def leftOver : State := { State.reset with crc := 1#16, txf := frameS2, regs := some [] }

/-- Reset with this configuration. -/
def configured (cfg : Cfg) : State := { State.reset with cfg := cfg }

/-- Reset with these answers of the transport. -/
def answering (fl : List Status) (wr : List WriteAnswer) (rd : List ReadAnswer) : State :=
  { State.reset with flushAnswers := fl, writeAnswers := wr, readAnswers := rd }

/-- The response of S4a. -/
def frameS4a : List Byte :=
  [0x01#8, 0x03#8, 0x06#8, 0xAE#8, 0x41#8, 0x56#8, 0x52#8, 0x43#8, 0x40#8, 0x84#8, 0x6D#8]

/-- The registers of S4a. -/
def regsS4a : List U16 := [0xAE41#16, 0x5652#16, 0x4340#16]

def writeOk : WriteAnswer := { accepted := 8, status := .ok }

def readS4a : ReadAnswer := { bytes := frameS4a, status := .ok }

/-- The transport script of P2. -/
def stateP2 : State := answering [.ok] [writeOk] [readS4a]

/-- `CLIENT.RHR 0x01, 0x0000, 0x0003`, the exchange of the K vectors. -/
def rhrK : Instr := .clientRhr 0x01#8 0x0000#16 0x0003#16

/-! ## WellFormed: each check refuses an ill-formed term -/

/-- R81: the trailer is not free (F3's low byte). -/
theorem test_wf_request_trailer : ¬ WellFormed (.reqFc03 0x01#8 0x0000#16 0x0008#16 0x45#8 0x0C#8) := by
  decide +kernel

/-- D21: one trailer bit of S4a flipped. -/
theorem test_wf_response_trailer : ¬ WellFormed (.rspFc03 0x01#8 0x06#8 regsS4a 0x84#8 0x6C#8) := by
  decide +kernel

/-- R82: no 16-bit count asks for 65536 registers. -/
theorem test_wf_response_length (a b l h : Byte) (regs : List U16) (hr : regs.length = 65536) :
    ¬ WellFormed (.rspFc03 a b regs l h) := by
  simp [WellFormed, wellFormed, hr]

/-- B5 with its last byte changed. -/
theorem test_wf_reserved_trailer :
    ¬ WellFormed (.reqFc16 0xFF#8 0x12#8 0x34#8 0xFF#8 0xFF#8 0x90#8 0xD2#8) := by decide +kernel

/-! ## Decoding: words written out from the spec's encodings -/

/-- R86, P1 step 2. -/
theorem test_decode_crcCompute : decode { fmt := .cmd, bytes := [0x00#8, 0x01#8, 0x03#8] } =
    .ok (.crcCompute [0x01#8, 0x03#8]) := by decide

/-- R86, P1 step 5. -/
theorem test_decode_crcVerify : decode { fmt := .cmd, bytes := [0x01#8, 0x44#8] } =
    .ok (.crcVerify [0x44#8]) := by decide

/-- R86, B6: `START = 256` is `01 00`. -/
theorem test_decode_frameBuild :
    decode { fmt := .cmd, bytes := [0x02#8, 0x01#8, 0x03#8, 0x01#8, 0x00#8, 0x00#8, 0x01#8] } =
      .ok (.frameBuild 0x01#8 0x03#8 0x0100#16 0x0001#16) := by decide

/-- R86, P5 step 2. -/
theorem test_decode_frameDecode :
    decode { fmt := .cmd, bytes := [0x03#8, 0x01#8, 0x03#8, 0x06#8, 0xAE#8, 0x00#8, 0x03#8] } =
      .ok (.frameDecode [0x01#8, 0x03#8, 0x06#8, 0xAE#8] 0x0003#16) := by decide

/-- R86, P2 step 0. -/
theorem test_decode_clientRhr :
    decode { fmt := .cmd, bytes := [0x04#8, 0x01#8, 0x00#8, 0x00#8, 0x00#8, 0x03#8] } = .ok rhrK := by
  decide

/-- R81, B2: `11 03 00 6B 00 03 76 87`, bit by bit. -/
theorem test_decode_reqFc03 :
    decode { fmt := .req8, bytes := [0b00010001#8, 0b00000011#8, 0b00000000#8, 0b01101011#8,
        0b00000000#8, 0b00000011#8, 0b01110110#8, 0b10000111#8] } =
      .ok (.reqFc03 0x11#8 0x006B#16 0x0003#16 0x76#8 0x87#8) := by decide

/-- R82, S4a. -/
theorem test_decode_rspFc03 : decode { fmt := .rspv, bytes := frameS4a } =
    .ok (.rspFc03 0x01#8 0x06#8 regsS4a 0x84#8 0x6D#8) := by decide

/-- R85, B5. -/
theorem test_decode_reqFc16 :
    decode { fmt := .req8, bytes := [0xFF#8, 0x10#8, 0x12#8, 0x34#8, 0xFF#8, 0xFF#8, 0x90#8, 0xD1#8] } =
      .ok (.reqFc16 0xFF#8 0x12#8 0x34#8 0xFF#8 0xFF#8 0x90#8 0xD1#8) := by decide

/-- R88, R85, R82, R87: reserved code, foreign function code, wrong lengths. -/
theorem test_decode_refuses :
    decode { fmt := .cmd, bytes := [0x05#8] } = .error (.reservedOperationCode 0x05#8) ∧
    decode { fmt := .cmd, bytes := [] } = .error .emptyOperationWord ∧
    decode { fmt := .cmd, bytes := [0x04#8, 0x01#8] } = .error (.operandBytes 0x04#8) ∧
    decode { fmt := .req8, bytes := [0#8, 4#8, 0#8, 0#8, 0#8, 0#8, 0#8, 0#8] } = .error (.functionCode 4#8) ∧
    decode { fmt := .req8, bytes := [0#8, 3#8] } = .error .requestFrameLength ∧
    decode { fmt := .rspv, bytes := [1#8, 3#8, 2#8, 0xAE#8, 0x73#8, 0xC4#8] } = .error .responseFrameLength ∧
    decode { fmt := .rspv, bytes := [1#8, 0x83#8, 2#8, 0xC0#8, 0xF1#8] } = .error (.functionCode 0x83#8) := by
  decide

/-- The table's match words give the rows' instructions. -/
theorem test_table_words :
    decodeTableWord 8 0x00 = some (.crcCompute []) ∧ decodeTableWord 8 0x01 = some (.crcVerify []) ∧
    decodeTableWord 8 0x02 = some (.frameBuild 0#8 0#8 0#16 0#16) ∧
    decodeTableWord 8 0x03 = some (.frameDecode [] 0#16) ∧
    decodeTableWord 8 0x04 = some (.clientRhr 0#8 0#16 0#16) ∧ decodeTableWord 8 0x05 = none ∧
    decodeTableWord 64 0x0003000000000000 = some (.reqFc03 0#8 0#16 0#16 0#8 0#8) ∧
    decodeTableWord 24 0x000300 = some (.rspFc03 0#8 0#8 [] 0#8 0#8) ∧
    decodeTableWord 64 0x0010000000000000 = some (.reqFc16 0#8 0#8 0#8 0#8 0#8 0#8 0#8) := by decide

/-! ## One step of each instruction -/

/-- V8. -/
theorem test_crcCompute_v8 :
    (nextOf (exec (.crcCompute [0x01#8, 0x03#8, 0x00#8, 0x00#8, 0x00#8, 0x08#8]) State.reset)).map State.out =
      some (some { err := .noError, data := some (.checksum 0x44#8 0x0C#8) }) := by decide +kernel

/-- V1. -/
theorem test_crcCompute_empty : (nextOf (exec (.crcCompute []) State.reset)).map State.out =
    some (some { err := .noError, data := some (.checksum 0xFF#8 0xFF#8) }) := by decide +kernel

/-- F1 and F5. -/
theorem test_crcVerify_trailer :
    (nextOf (exec (.crcVerify frameS2) State.reset)).map State.valid = some (some true) ∧
    (nextOf (exec (.crcVerify [0x01#8, 0x03#8, 0x00#8, 0x00#8, 0x00#8, 0x08#8, 0x0C#8, 0x44#8])
      State.reset)).map State.valid = some (some false) := by decide +kernel

/-- F6 and F10. -/
theorem test_crcVerify_edges :
    (nextOf (exec (.crcVerify [0xFF#8, 0xFF#8]) State.reset)).map State.valid = some (some true) ∧
    (nextOf (exec (.crcVerify [0xFF#8]) State.reset)).map State.err = some (some .malformedFrame) := by
  decide +kernel

/-- B2. -/
theorem test_frameBuild_b2 :
    (nextOf (exec (.frameBuild 0x11#8 0x03#8 0x006B#16 0x0003#16) State.reset)).map State.txf =
      some [0x11#8, 0x03#8, 0x00#8, 0x6B#8, 0x00#8, 0x03#8, 0x76#8, 0x87#8] := by decide +kernel

/-- B3. -/
theorem test_frameBuild_b3 :
    (nextOf (exec (.frameBuild 0xF7#8 0x03#8 0xFFFF#16 0x007D#16) State.reset)).map State.txf =
      some [0xF7#8, 0x03#8, 0xFF#8, 0xFF#8, 0x00#8, 0x7D#8, 0x91#8, 0x59#8] := by decide +kernel

/-- D1 and D14. -/
theorem test_frameDecode_d1 :
    (nextOf (exec (.frameDecode frameS4a 3#16) State.reset)).map State.regs = some (some regsS4a) ∧
    (nextOf (exec (.frameDecode [0x01#8, 0x03#8, 0x40#8, 0x21#8] 3#16) State.reset)).map State.err =
      some (some .malformedFrame) := by decide +kernel

/-- D17, the document's literal frame, and D11 with the byte-count check on. -/
theorem test_frameDecode_errors :
    (nextOf (exec (.frameDecode [0x01#8, 0x03#8, 0x06#8, 0xAE#8, 0x41#8, 0x56#8, 0x52#8, 0x43#8, 0x40#8,
      0x49#8, 0xAD#8] 3#16) State.reset)).map State.err = some (some .crcMismatch) ∧
    (nextOf (exec (.frameDecode [0x01#8, 0x03#8, 0x06#8, 0xAE#8, 0x41#8, 0x56#8, 0x94#8, 0xCD#8] 3#16)
      { State.reset with cfg := { Cfg.default with checkByteCount := true } })).map State.err =
      some (some .malformedFrame) := by decide +kernel

/-- K1, issued as a word: one step gives the registers and the transactions of P2. -/
theorem test_clientRhr_k1 :
    (nextOf (step { stateP2 with host := [encode rhrK] })).map
      (fun t => (t.regs, t.err, t.cst, t.bus)) =
    some (some regsS4a, some .noError, .idle, [.flush,
      .write [0x01#8, 0x03#8, 0x00#8, 0x00#8, 0x00#8, 0x03#8, 0x05#8, 0xCB#8], .read 11]) := by
  decide +kernel

/-- K3 (no read is issued), K6 and K14. -/
theorem test_clientRhr_exits :
    (nextOf (exec rhrK (answering [.ok] [{ accepted := 5, status := .ok }] [readS4a]))).map
      (fun t => (t.err, t.bus.length)) = some (some .transportWrite, 2) ∧
    (nextOf (exec rhrK (answering [.ok] [writeOk]
      [{ bytes := [0x01#8, 0x03#8, 0x06#8, 0xAE#8, 0x41#8], status := .error }]))).map State.err =
      some (some .transportRead) ∧
    (nextOf (exec rhrK (answering [.ok] [writeOk] []))).map (fun t => (t.cst, t.running, t.err)) =
      some (.awaitingResponse, some .read, none) := by decide +kernel

/-- R81, S2 as a request frame. -/
theorem test_reqFc03_s2 :
    (nextOf (exec (.reqFc03 0x01#8 0x0000#16 0x0008#16 0x44#8 0x0C#8) State.reset)).map State.valid =
      some (some true) := by decide +kernel

/-- R82, S4a as a response frame. -/
theorem test_rspFc03_s4a :
    (nextOf (exec (.rspFc03 0x01#8 0x06#8 regsS4a 0x84#8 0x6D#8) State.reset)).map State.regs =
      some (some regsS4a) := by decide +kernel

/-- R85. -/
theorem test_reqFc16_refused :
    refusalOf (exec (.reqFc16 0xFF#8 0x12#8 0x34#8 0xFF#8 0xFF#8 0x90#8 0xD1#8) State.reset) =
      some .functionCode16Reserved := by decide

/-- T1, T2, T5, T6, T9. -/
theorem test_shift_steps :
    crcBit 0xFFFE#16 = 0x7FFF#16 ∧ crcBit 0x7FFF#16 = 0x9FFE#16 ∧ crcBit 0xFFFF#16 = 0xDFFE#16 ∧
    crcBit 0x8000#16 = 0x4000#16 ∧ crcByte 0x807E#16 0x03#8 = 0x2140#16 := by decide +kernel

/-- The table's words run as the first instruction after reset; only the reserved row is refused. -/
theorem test_fetch_words_run :
    ((nextOf (step (State.reset.withFetchWord 8 0x00))).isSome = true) ∧
    ((nextOf (step (State.reset.withFetchWord 8 0x02))).isSome = true) ∧
    ((nextOf (step (State.reset.withFetchWord 8 0x04))).map State.running = some (some .flush)) ∧
    ((nextOf (step (State.reset.withFetchWord 64 0x0003000000000000))).map State.valid = some (some false)) ∧
    ((nextOf (step (State.reset.withFetchWord 24 0x000300))).map State.err = some (some .crcMismatch)) ∧
    (refusalOf (step (State.reset.withFetchWord 64 0x0010000000000000)) = some .functionCode16Reserved) := by
  decide +kernel

/-! ## Witnesses: a state and operands that meet the hypotheses of each statement -/

/-- Every statement whose only hypothesis on the state is that no operation runs. -/
theorem witness_free : State.reset.running = none ∧ stateP2.running = none := by decide

theorem witness_ResetMeetsInvariant : Cfg.default.Legal ∧ Cfg.Legal { Cfg.default with rxCap := 5 } := by
  decide

theorem inv_issuing (host : List IssueWord) : (issuing host).Inv := by
  constructor <;> simp [issuing, State.reset, requestLength, Cfg.default]

theorem witness_StepKeepsInvariant : ∃ s t : State, s.Inv ∧ step s = .next t ∧ t ≠ s :=
  ⟨issuing [{ fmt := .cmd, bytes := [0x00#8, 0x01#8] }], _, inv_issuing _, rfl, by decide +kernel⟩

theorem witness_ReachableStatesMeetInvariant : ∃ s t : State, Reachable s ∧ step s = .next t ∧
    Reachable t ∧ t.err = some .noError :=
  ⟨issuing [{ fmt := .cmd, bytes := [0x00#8, 0x01#8] }], _,
    .environment (.reset Cfg.default (by decide)) [{ fmt := .cmd, bytes := [0x00#8, 0x01#8] }] [] [] [], rfl,
    .step (.environment (.reset Cfg.default (by decide)) [{ fmt := .cmd, bytes := [0x00#8, 0x01#8] }] [] [] [])
      rfl, rfl⟩

/-- Each of the four cases of a step: running, idle, a word that decodes, one that does not. -/
theorem witness_StepRunsTheIssuedInstruction :
    (State.reset.await .read).running = some .read ∧
    (State.reset.running = none ∧ State.reset.host = []) ∧
    (∃ word rest i, (issuing [{ fmt := .cmd, bytes := [0x01#8, 0x44#8] }]).host = word :: rest ∧
      decode word = .ok i) ∧
    (∃ word rest e, (issuing [{ fmt := .cmd, bytes := [0xFF#8] }]).host = word :: rest ∧
      decode word = .error e) :=
  ⟨rfl, ⟨rfl, rfl⟩, ⟨_, _, _, rfl, rfl⟩, ⟨_, _, _, rfl, rfl⟩⟩

theorem witness_DecodeOfEncode : WellFormed (.crcCompute []) ∧ WellFormed (.crcVerify []) ∧
    WellFormed (.frameBuild 0xFF#8 0xFF#8 0xFFFF#16 0xFFFF#16) ∧ WellFormed (.frameDecode [] 0xFFFF#16) ∧
    WellFormed rhrK ∧ WellFormed (.reqFc03 0x01#8 0x0000#16 0x0008#16 0x44#8 0x0C#8) ∧
    WellFormed (.rspFc03 0x01#8 0x06#8 regsS4a 0x84#8 0x6D#8) ∧
    WellFormed (.rspFc03 0x01#8 0x00#8 [] 0x20#8 0xF0#8) ∧
    WellFormed (.reqFc16 0xFF#8 0x12#8 0x34#8 0xFF#8 0xFF#8 0x90#8 0xD1#8) := by decide +kernel

theorem witness_EncodeOfDecode : ∃ i, decode { fmt := .rspv, bytes := frameS4a } = .ok i := ⟨_, rfl⟩

/-- The reserved codes at both ends of their range. -/
theorem witness_OperationCodesSelectOperations :
    (5 ≤ (0x05#8).toNat ∧ (issuing [{ fmt := .cmd, bytes := [0x05#8] }]).host =
      { fmt := .cmd, bytes := 0x05#8 :: [] } :: []) ∧
    (5 ≤ (0xFF#8).toNat ∧ (issuing [{ fmt := .cmd, bytes := [0xFF#8] }]).host =
      { fmt := .cmd, bytes := 0xFF#8 :: [] } :: []) := by decide

theorem witness_TrailerIsLowByteFirst : trailer 0x0C44#16 = [0x44#8, 0x0C#8] := by decide

/-- The shortest input, and a whole frame. -/
theorem witness_CrcVerifyCompletes : 2 ≤ [0xFF#8, 0xFF#8].length ∧ 2 ≤ frameS2.length := by decide

theorem witness_CrcVerifyGuardsShortInput : ([] : List Byte).length < 2 ∧ [0x44#8].length < 2 := by decide

/-- A valid frame, its first and its last byte, its lowest and its highest bit. -/
theorem witness_ComputeThenVerify : ∃ t, exec (.crcVerify frameS2) State.reset = .next t ∧
    t.valid = some true ∧ frameS2[0]? = some 0x01#8 ∧ frameS2[7]? = some 0x0C#8 ∧ (0 < 8 ∧ 7 < 8) ∧
    [0x44#8, 0x0D#8] ≠ [0x44#8, 0x0C#8] :=
  ⟨_, rfl, by decide +kernel, rfl, rfl, by decide, by decide⟩

theorem witness_ValidFrameHasZeroResidue : ∃ t, exec (.crcVerify [0xFF#8, 0xFF#8]) State.reset = .next t ∧
    t.valid = some true := ⟨_, rfl, by decide +kernel⟩

/-- Two free states that differ in what an earlier operation left. -/
theorem witness_CrcOperationsArePure : State.reset.running = none ∧
    leftOver.running = none ∧ State.reset ≠ leftOver := by decide +kernel

/-- Both ways a request frame gets into `TXF`. -/
theorem witness_RequestFrameMap :
    (∃ t, exec (.frameBuild 0x01#8 0x03#8 0#16 8#16) State.reset = .next t) ∧
    (∃ t, exec rhrK stateP2 = .next t ∧ stateP2.FlushPasses) :=
  ⟨⟨_, rfl⟩, ⟨_, rfl, fun _ => ⟨_, _, rfl, .inl rfl⟩⟩⟩

theorem witness_BuilderByMemoryWrites : State.reset.txf.length = 8 := by decide

theorem witness_BuiltOperandsReadBack :
    ∃ t, exec (.frameBuild 0xFF#8 0xFF#8 0xFFFF#16 0xFFFF#16) State.reset = .next t := ⟨_, rfl⟩

/-- The shortest response, and one with the byte-count check on. -/
theorem witness_FrameDecodeCompletes :
    (5 ≤ [0x01#8, 0x03#8, 0x00#8, 0x20#8, 0xF0#8].length ∧
      ownChecksum [0x01#8, 0x03#8, 0x00#8, 0x20#8, 0xF0#8] = true) ∧
    (5 ≤ frameS4a.length ∧ ownChecksum frameS4a = true ∧ byteCountAgrees frameS4a = true) := by
  decide +kernel

/-- Lengths 0 and 4. -/
theorem witness_DecodeGuardsLengthFirst : ([] : List Byte).length < 5 ∧
    [0x01#8, 0x03#8, 0x40#8, 0x21#8].length < 5 := by decide

/-- D21's frame, and a shortest one. -/
theorem witness_DecodeChecksumGate :
    (5 ≤ (frameS4a.set 10 0x6C#8).length ∧ (frameS4a.set 10 0x6C#8).drop 9 ≠
      trailer (crc16 ((frameS4a.set 10 0x6C#8).take 9))) ∧
    (5 ≤ [0#8, 0#8, 0#8, 0#8, 0#8].length ∧ [0#8, 0#8, 0#8, 0#8, 0#8].drop 3 ≠
      trailer (crc16 ([0#8, 0#8, 0#8, 0#8, 0#8].take 3))) := by decide +kernel

/-- A free state with the byte-count check on: frames whose field agrees (S4a) and does not (D20). -/
theorem witness_ByteCountCheckIsOptional :
    (configured { Cfg.default with checkByteCount := true }).running = none ∧
    (5 ≤ frameS4a.length ∧ ownChecksum frameS4a = true) ∧
    ownChecksum [0x01#8, 0x03#8, 0xFF#8, 0x12#8, 0x34#8, 0x24#8, 0xC3#8] = true := by decide +kernel

/-- A frame with more than 127 registers that is its own checksum's, for that statement's last clause. -/
theorem witness_ByteCountCheckIsOptional_long (b : List Byte) (hb : b.length = 259) :
    5 ≤ (withTrailer b).length ∧ ownChecksum (withTrailer b) = true ∧
    127 < ((withTrailer b).length - 5) / 2 := by
  refine ⟨?_, ownChecksum_withTrailer _, ?_⟩ <;> rw [withTrailer_length] <;> omega

/-- A free state with the byte-count check off. -/
theorem witness_unchecked : State.reset.running = none ∧ State.reset.cfg.checkByteCount = false := by decide

/-- No register, and the 3 of S4a with either setting of the check. -/
theorem witness_ResponseRoundTrip : ([] : List U16).length ≤ 127 ∧ regsS4a.length ≤ 127 ∧
    ∃ u lo hi, exec (.crcCompute ([0x01#8, 0x03#8, BitVec.ofNat 8 (2 * regsS4a.length)] ++
        regsS4a.flatMap (fun v => [v.extractLsb' 8 8, v.extractLsb' 0 8]))) State.reset = .next u ∧
      u.out = some { err := .noError, data := some (.checksum lo hi) } :=
  ⟨by decide, by decide, _, 0x84#8, 0x6D#8, rfl, by decide +kernel⟩

/-- A short read that passes the gate (D10) and one that does not (D9), both asked for 3 registers. -/
theorem witness_ShortReads :
    (5 ≤ [0x01#8, 0x03#8, 0x06#8, 0xAE#8, 0x41#8, 0x56#8, 0x52#8, 0x4D#8, 0x52#8].length ∧
      [0x01#8, 0x03#8, 0x06#8, 0xAE#8, 0x41#8, 0x56#8, 0x52#8, 0x4D#8, 0x52#8].length <
        5 + 2 * (3#16).toNat) ∧
    (5 ≤ [0#8, 0#8, 0#8, 0#8, 0#8].length ∧ [0#8, 0#8, 0#8, 0#8, 0#8].length < 5 + 2 * (1#16).toNat) := by
  decide

theorem witness_FrameDecodeIsPure : State.reset.running = none ∧ stateP2.running = none ∧
    State.reset.cfg.checkByteCount = stateP2.cfg.checkByteCount := by decide

theorem flushPasses_P2 : stateP2.FlushPasses := fun _ => ⟨_, _, rfl, .inl rfl⟩

/-- The exchange P2, which meets the hypotheses of every statement about a successful exchange. -/
theorem witness_ClientExchangeCompletes : stateP2.running = none ∧
    5 + 2 * (3#16).toNat ≤ stateP2.cfg.rxCap ∧ stateP2.FlushPasses ∧
    stateP2.writeAnswers = { accepted := 8, status := .ok } :: [] ∧
    stateP2.readAnswers = { bytes := frameS4a, status := .ok } :: [] ∧ 5 ≤ frameS4a.length ∧
    frameS4a.length ≤ 5 + 2 * (3#16).toNat ∧ ownChecksum frameS4a = true ∧
    byteCountAgrees frameS4a = true :=
  ⟨rfl, by decide, flushPasses_P2, rfl, rfl, by decide, by decide, by decide +kernel, by decide⟩

/-- The same with an ignored failed flush, without a flush, and with a read of no bytes (K12, K13, K7). -/
theorem witness_ClientPassesTheBytesRead :
    State.FlushPasses { answering [.error] [writeOk] [{ bytes := [], status := .ok }] with
      cfg := { Cfg.default with flushErrAborts := false } } ∧
    State.FlushPasses { answering [] [writeOk] [{ bytes := [], status := .ok }] with
      cfg := { Cfg.default with flushEn := false } } ∧
    (answering [.ok] [writeOk] [{ bytes := [], status := .ok }]).readAnswers =
      { bytes := [], status := .ok } :: [] ∧
    ([] : List Byte).length < 5 ∧
    (5 ≤ [0#8, 0#8, 0#8, 0#8, 0#8].length ∧ ownChecksum [0#8, 0#8, 0#8, 0#8, 0#8] = false ∧
      [0#8, 0#8, 0#8, 0#8, 0#8].length ≤ 5 + 2 * (0#16).toNat) :=
  ⟨fun _ => ⟨_, _, rfl, .inr rfl⟩, fun h => absurd h (by decide), rfl, by decide, by decide +kernel⟩

/-- K11, with either setting of `FLUSH_ERR_ABORTS`. -/
theorem witness_FailedFlush :
    ((answering [.error] [] []).cfg.flushEn = true ∧ (answering [.error] [] []).cfg.flushErrAborts = true ∧
      (answering [.error] [] []).flushAnswers = .error :: []) ∧
    (configured { Cfg.default with flushErrAborts := false }).cfg.flushEn = true ∧
    (configured { Cfg.default with flushErrAborts := false }).cfg.flushErrAborts = false := by
  decide

/-- K2, K3 and K4: an error with 0 bytes, 7 of 8 bytes without one, an error with all 8. -/
theorem witness_FailedWrite : (answering [.ok] [{ accepted := 0, status := .error }] []).FlushPasses ∧
    (answering [.ok] [{ accepted := 0, status := .error }] []).writeAnswers =
      { accepted := 0, status := .error } :: [] ∧
    (({ accepted := 7, status := .ok } : WriteAnswer).accepted < 8) ∧
    (({ accepted := 8, status := .error } : WriteAnswer).accepted ≤ 8) :=
  ⟨fun _ => ⟨_, _, rfl, .inl rfl⟩, rfl, by decide, by decide⟩

/-- K5 and K6. -/
theorem witness_FailedRead :
    (answering [.ok] [writeOk] [{ bytes := [], status := .error }]).FlushPasses ∧
    (answering [.ok] [writeOk] [{ bytes := [], status := .error }]).readAnswers =
      { bytes := [], status := .error } :: [] ∧ ([] : List Byte).length ≤ 5 + 2 * (3#16).toNat :=
  ⟨fun _ => ⟨_, _, rfl, .inl rfl⟩, rfl, by decide⟩

/-- A small buffer: one register fits 7 bytes, two do not. -/
theorem witness_ResponseBufferLength :
    (configured { Cfg.default with rxCap := 7 }).cfg.rxCap < 5 + 2 * (2#16).toNat ∧
    ¬ (configured { Cfg.default with rxCap := 7 }).cfg.rxCap < 5 + 2 * (1#16).toNat := by
  decide

/-- The first answers beyond the contract: 9 bytes accepted, 6 bytes read for no register. -/
theorem witness_AnswersBeyondContractAreRefused :
    (answering [.ok] [{ accepted := 9, status := .ok }] []).FlushPasses ∧
    8 < ({ accepted := 9, status := .ok } : WriteAnswer).accepted ∧
    5 + 2 * (0#16).toNat < ({ bytes := List.replicate 6 0#8, status := .ok } : ReadAnswer).bytes.length :=
  ⟨fun _ => ⟨_, _, rfl, .inl rfl⟩, by decide, by decide⟩

/-- A state that waits for its write, one for its read, and the issue of K14. -/
theorem witness_ClientStateMoves :
    (∃ t, exec rhrK (answering [.ok] [writeOk] []) = .next t ∧ t.cst = .awaitingResponse) ∧
    (∃ t, exec rhrK (answering [.ok] [] []) = .next t ∧ t.running = some .write ∧ t.cst = .idle ∧
      ∃ u, step { t with writeAnswers := [writeOk] } = .next u) ∧
    (answering [.ok] [writeOk] []).FlushPasses ∧ (answering [.ok] [writeOk] []).readAnswers = [] :=
  ⟨⟨_, rfl, rfl⟩, ⟨_, rfl, rfl, rfl, _, rfl⟩, fun _ => ⟨_, _, rfl, .inl rfl⟩, rfl⟩

/-- P2, and a resumed wait for the write that ends without error. -/
theorem witness_OneWriteOneRead : (∃ t, exec rhrK stateP2 = .next t ∧ t.err = some .noError) ∧
    (∃ t, exec rhrK (answering [.ok] [] []) = .next t ∧ t.running = some .write ∧ t.out = none ∧
      ∃ u, step { t with writeAnswers := [writeOk], readAnswers := [readS4a] } = .next u ∧
        u.err = some .noError) :=
  ⟨⟨_, rfl, by decide +kernel⟩, ⟨_, rfl, rfl, rfl, _, rfl, by decide +kernel⟩⟩

/-- Both ends of the register counts, an exchange whose flush passes, and a build. -/
theorem witness_FunctionCodesSelectFormats : ([] : List U16).length ≤ 65535 ∧ regsS4a.length ≤ 65535 ∧
    (stateP2.FlushPasses ∧ ∃ t, exec rhrK stateP2 = .next t) ∧
    ∃ t, exec (.frameBuild 0xFF#8 0x10#8 0x1234#16 0xFFFF#16) State.reset = .next t :=
  ⟨by decide, by decide, ⟨fun _ => ⟨_, _, rfl, .inl rfl⟩, _, rfl⟩, _, rfl⟩

/-- An odd data byte under a check: byte count 2 for one register and one byte more. -/
theorem witness_OddDataByteIsIgnored :
    (configured { Cfg.default with checkByteCount := true }).running = none ∧
    (0x02#8).toNat = 2 * [0xAE41#16].length := by decide

/-- A wait for each of the three transactions, by issue. -/
theorem witness_UnansweredTransactionHangs :
    (∃ t, exec rhrK (answering [] [] []) = .next t ∧ t.running = some .flush) ∧
    (∃ t, exec rhrK (answering [.ok] [] []) = .next t ∧ t.running = some .write) ∧
    (∃ t, exec rhrK (answering [.ok] [writeOk] []) = .next t ∧ t.running = some .read) :=
  ⟨⟨_, rfl, rfl⟩, ⟨_, rfl, rfl⟩, ⟨_, rfl, rfl⟩⟩

/-- The issues that wait: for a flush, for a write with the flush passed and with none, and for a read. -/
theorem witness_UnansweredTransactionHangs_issue :
    ((answering [] [] []).running = none ∧ (answering [] [] []).cfg.flushEn = true ∧
      5 + 2 * (3#16).toNat ≤ (answering [] [] []).cfg.rxCap ∧ (answering [] [] []).flushAnswers = []) ∧
    ((answering [.ok] [] []).FlushPasses ∧ (answering [.ok] [] []).writeAnswers = []) ∧
    ((configured { Cfg.default with flushEn := false }).FlushPasses ∧
      (configured { Cfg.default with flushEn := false }).writeAnswers = []) ∧
    ((answering [.ok] [writeOk] []).writeAnswers = { accepted := 8, status := .ok } :: [] ∧
      (answering [.ok] [writeOk] []).readAnswers = []) :=
  ⟨by decide, ⟨fun _ => ⟨_, _, rfl, .inl rfl⟩, rfl⟩, ⟨fun h => absurd h (by decide), rfl⟩, rfl, rfl⟩

/-- P2 with each of its answers late in turn. -/
theorem witness_LateAnswersMakeNoDifference :
    (stateP2.flushAnswers ≠ [] ∧ ∃ t, exec rhrK { stateP2 with flushAnswers := [] } = .next t ∧
      t.running = some .flush) ∧
    (stateP2.writeAnswers ≠ [] ∧ ∃ t, exec rhrK { stateP2 with writeAnswers := [] } = .next t ∧
      t.running = some .write) ∧
    (stateP2.readAnswers ≠ [] ∧ ∃ t, exec rhrK { stateP2 with readAnswers := [] } = .next t ∧
      t.running = some .read) :=
  ⟨⟨by decide, _, rfl, rfl⟩, ⟨by decide, _, rfl, rfl⟩, ⟨by decide, _, rfl, rfl⟩⟩

/-- An operation that delivers, one that fails, and an exchange that fails. -/
theorem witness_ErrorsDeliverNoData :
    (∃ t c, exec (.frameDecode frameS4a 3#16) State.reset = .next t ∧ t.out = some c ∧
      c.data = some (.registers regsS4a)) ∧
    (∃ t, exec (.frameDecode [] 3#16) State.reset = .next t ∧ t.err = some .malformedFrame) ∧
    (∃ t, exec rhrK (answering [.error] [] []) = .next t ∧ t.err = some .transportFlush) :=
  ⟨⟨_, { err := .noError, data := some (.registers regsS4a) }, rfl, by decide +kernel, rfl⟩,
    ⟨_, rfl, by decide +kernel⟩, ⟨_, rfl, by decide +kernel⟩⟩

/-- An exchange that ends with each class: K11, K2, K5, a read of no bytes, a bad trailer, and P2. -/
theorem witness_ErrorClassesOfOperations_client :
    [answering [.error] [] [], answering [.ok] [{ accepted := 0, status := .error }] [],
      answering [.ok] [writeOk] [{ bytes := [], status := .error }],
      answering [.ok] [writeOk] [{ bytes := [], status := .ok }],
      answering [.ok] [writeOk] [{ bytes := [0#8, 0#8, 0#8, 0#8, 0#8], status := .ok }], stateP2].map
        (fun s => ((nextOf (exec rhrK s)).map State.err)) =
      [some (some .transportFlush), some (some .transportWrite), some (some .transportRead),
        some (some .malformedFrame), some (some .crcMismatch), some (some .noError)] := by decide +kernel

/-- Frames of 5 and of 6 bytes, for the clause on the empty register list. -/
theorem witness_ErrorsDeliverNoData_empty : ([] : List Byte).length ≤ 1 ∧ [0x12#8].length ≤ 1 ∧
    State.reset.cfg.checkByteCount = false := by decide

theorem witness_ErrorClassesOfOperations :
    (∃ t, exec (.crcCompute []) State.reset = .next t) ∧ (∃ t, exec (.crcVerify []) State.reset = .next t) ∧
    (∃ t, exec (.frameBuild 0#8 0#8 0#16 0#16) State.reset = .next t) ∧
    (∃ t, exec (.frameDecode [] 0#16) State.reset = .next t) ∧
    (∃ t, exec rhrK (answering [.error] [] []) = .next t ∧ t.err = some .transportFlush) :=
  ⟨⟨_, rfl⟩, ⟨_, rfl⟩, ⟨_, rfl⟩, ⟨_, rfl⟩, ⟨_, rfl, by decide +kernel⟩⟩

theorem witness_FirstErrorIsReported : stateP2.flushAnswers = .ok :: [] ∧
    stateP2.writeAnswers = writeOk :: [] ∧ stateP2.readAnswers = readS4a :: [] ∧
    KeepsContract 3#16 writeOk readS4a :=
  ⟨rfl, rfl, rfl, by decide, by decide⟩

/-- A transport that answers the read with the 5 bytes of D8. -/
theorem witness_ExceptionResponsesAreNotRecognised :
    (answering [.ok] [writeOk] [{ bytes := withTrailer [0x01#8, 0x83#8, 0x02#8], status := .ok }]).FlushPasses ∧
    (answering [.ok] [writeOk] [{ bytes := withTrailer [0x01#8, 0x83#8, 0x02#8], status := .ok }]).readAnswers =
      { bytes := withTrailer [0x01#8, 0x83#8, 0x02#8], status := .ok } :: [] :=
  ⟨fun _ => ⟨_, _, rfl, .inl rfl⟩, rfl⟩

/-- The frame S4a, the same with byte count 7 under a check, and with a wrong trailer. -/
theorem witness_ResponseFrameIsDecoded :
    [0x84#8, 0x6D#8] = trailer (crc16 ([0x01#8, 0x03#8, 0x06#8] ++
      regsS4a.flatMap (fun v => [v.extractLsb' 8 8, v.extractLsb' 0 8]))) ∧
    (0x06#8).toNat = 2 * regsS4a.length ∧
    ([0x94#8, 0xAD#8] = trailer (crc16 ([0x01#8, 0x03#8, 0x07#8] ++
      regsS4a.flatMap (fun v => [v.extractLsb' 8 8, v.extractLsb' 0 8]))) ∧
      (configured { Cfg.default with checkByteCount := true }).cfg.checkByteCount = true ∧
      (0x07#8).toNat ≠ 2 * regsS4a.length) ∧
    [0x84#8, 0x6C#8] ≠ trailer (crc16 ([0x01#8, 0x03#8, 0x06#8] ++
      regsS4a.flatMap (fun v => [v.extractLsb' 8 8, v.extractLsb' 0 8]))) := by decide +kernel

/-- Two states that agree in configuration and answers and in nothing else an operation left. -/
theorem witness_OperationsAreStateless :
    State.reset.running = none ∧ leftOver.running = none ∧ State.reset.cfg = leftOver.cfg ∧
    State.reset.cst = leftOver.cst ∧ State.reset.flushAnswers = leftOver.flushAnswers ∧
    State.reset.writeAnswers = leftOver.writeAnswers ∧
    State.reset.readAnswers = leftOver.readAnswers ∧ State.reset ≠ leftOver := by decide +kernel

theorem witness_OnlyClientUsesTheTransport : (∀ a st n, Instr.crcVerify frameS2 ≠ .clientRhr a st n) ∧
    ∃ t, exec (.crcVerify frameS2) State.reset = .next t :=
  ⟨nofun, _, rfl⟩

theorem witness_ConfigurationIsConstant :
    ∃ t, step (issuing [{ fmt := .cmd, bytes := [0x00#8, 0x01#8] }]) = .next t := ⟨_, rfl⟩

theorem witness_IssueWhileBusyIsRefused : (State.reset.await .flush).running = some .flush ∧
    (State.reset.await .read).running = some .read := by decide

end Sys2Proof.Tests
end

section
/-! Proofs of the state section (spec/10_state.md): what the derived outputs `ERR`, `VALID` and `NREG` are
in a state whose `out` and `regs` have no value, and the reset state (rule R35). -/

namespace Sys2Proof.Machine

@[simp] theorem State.err_eq_none_iff {s : State} : s.err = none ↔ s.out = none :=
  Option.map_eq_none_iff

/-- One direction only: an operation with an output other than a validity leaves `VALID` without a value. -/
theorem State.valid_eq_none_of_out_eq_none {s : State} (h : s.out = none) : s.valid = none := by
  simp [State.valid, h]

@[simp] theorem State.nreg_eq_none_iff {s : State} : s.nreg = none ↔ s.regs = none :=
  Option.map_eq_none_iff

/-- Settles O1: the stored elements are read off the reset state, and `NREG`, `VALID` and `ERR` have no value
because `REGS` and the output they are read from have none. -/
theorem resetStateIsTheSpecs : Obligations.ResetStateIsTheSpecs := by
  unfold Obligations.ResetStateIsTheSpecs
  have hregs : State.reset.regs = none := rfl
  have hout : State.reset.out = none := rfl
  exact ⟨rfl, rfl, rfl, rfl, rfl, rfl, hregs, State.nreg_eq_none_iff.mpr hregs,
    State.valid_eq_none_of_out_eq_none hout, State.err_eq_none_iff.mpr hout⟩

end Sys2Proof.Machine
end

section
/-! Proofs of the memory section (spec/20_memory.md): what a request frame holds at each offset and that `TXF`
holds one after a build and after an exchange that gets to its write (rule R54); the length of the response
buffer and the refusals of an exchange (rule R53). -/

namespace Sys2Proof.Machine

/-! ## The request frame in `TXF` -/

@[simp] theorem requestFrame_take_six (addr fc : Byte) (start count : U16) :
    (requestFrame addr fc start count).take 6 = requestPrefix addr fc start count :=
  List.take_left' (requestPrefix_length addr fc start count)

theorem execFrameBuild_txf {addr fc : Byte} {start count : U16} {s t : State}
    (h : execFrameBuild addr fc start count s = .next t) : t.txf = requestFrame addr fc start count := by
  obtain ⟨-, hgo⟩ := whenFree_cases h
  cases hgo
  simp

/-- Once the read is issued, every end of the exchange and the wait leave `TXF` alone. -/
theorem afterRead_txf {s t : State} (h : afterRead s = .next t) : t.txf = s.txf := by
  obtain ⟨-, rfl⟩ | ⟨_, _, -, -, ⟨-, rfl⟩ | ⟨-, rfl⟩⟩ := afterRead_cases h
  · simp
  · simp
  · simp

/-- Once the write is issued, `TXF` is left alone too. -/
theorem afterWrite_txf {s t : State} (h : afterWrite s = .next t) : t.txf = s.txf := by
  obtain ⟨-, rfl⟩ | ⟨_, _, -, -, ⟨-, rfl⟩ | ⟨-, -, hread⟩⟩ := afterWrite_cases h
  · simp
  · simp
  · simpa using afterRead_txf hread

theorem buildAndWrite_txf {s t : State} (h : buildAndWrite s = .next t) :
    t.txf = requestFrame s.addr 0x03#8 s.start s.count := by
  simpa using afterWrite_txf h

theorem execClientRhr_txf {addr : Byte} {start count : U16} {s t : State}
    (h : execClientRhr addr start count s = .next t) (hf : s.FlushPasses) :
    t.txf = requestFrame addr 0x03#8 start count := by
  obtain ⟨hfree, hfits, -⟩ := execClientRhr_cases h
  rw [execClientRhr_of_flushPasses hfree hfits hf] at h
  simpa using buildAndWrite_txf h

/-- Settles O22: both operations leave the request frame in `TXF`, whose bytes are read off its layout. -/
theorem requestFrameMap : Obligations.RequestFrameMap := by
  unfold Obligations.RequestFrameMap
  intro addr fc start count s t h
  have htxf : t.txf = requestFrame addr fc start count := by
    obtain hbuild | ⟨hrhr, rfl, hf⟩ := h
    · exact execFrameBuild_txf hbuild
    · exact execClientRhr_txf hrhr hf
  rw [htxf, requestFrame_take_six]
  exact ⟨rfl, rfl, rfl, rfl, rfl, rfl, rfl, rfl⟩

/-! ## The response buffer -/

/-- The default capacity is the length of the longest response, that of 65535 registers (R32, R53). -/
theorem responseLength_le_default (count : U16) : responseLength count ≤ Cfg.default.rxCap := by
  have hcount : count.toNat < 65536 := count.isLt
  simp only [responseLength, Cfg.default]
  omega

/-- The one reason an exchange is refused for once its read is issued. -/
theorem afterRead_refused {s : State} {r : Refusal} (h : afterRead s = .refused r) :
    r = .readAnswerBeyondContract := by
  unfold afterRead at h
  split at h
  · cases h
  · split at h
    · cases h; rfl
    · split at h <;> cases h

/-- The reasons an exchange is refused for once its write is issued. -/
theorem afterWrite_refused {s : State} {r : Refusal} (h : afterWrite s = .refused r) :
    r = .writeAnswerBeyondContract ∨ r = .readAnswerBeyondContract := by
  unfold afterWrite at h
  split at h
  · cases h
  · split at h
    · cases h; exact .inl rfl
    · split at h
      · cases h
      · exact .inr (afterRead_refused h)

/-- The flush itself is never refused: the reasons are those of the write and the read. -/
theorem afterFlush_refused {s : State} {r : Refusal} (h : afterFlush s = .refused r) :
    r = .writeAnswerBeyondContract ∨ r = .readAnswerBeyondContract := by
  unfold afterFlush at h
  split at h
  · cases h
  · split at h
    · cases h
    · exact afterWrite_refused h

/-- What the issue of an exchange on a free block is refused for: a response that does not fit, or an answer
of the transport beyond its contract when it does. -/
theorem execClientRhr_refused {addr : Byte} {start count : U16} {s : State} {r : Refusal}
    (hfree : s.running = none) (h : execClientRhr addr start count s = .refused r) :
    (s.cfg.rxCap < responseLength count ∧ r = .responseExceedsCapacity) ∨
    (responseLength count ≤ s.cfg.rxCap ∧
      (r = .writeAnswerBeyondContract ∨ r = .readAnswerBeyondContract)) := by
  rw [execClientRhr, whenFree_of_free _ _ hfree] at h
  split at h
  · cases h; exact .inl ⟨‹_›, rfl⟩
  · next hfits =>
    refine .inr ⟨Nat.not_lt.mp hfits, ?_⟩
    split at h
    · exact afterFlush_refused h
    · exact afterWrite_refused h

theorem execClientRhr_refused_responseExceedsCapacity_iff (addr : Byte) (start count : U16) {s : State}
    (hfree : s.running = none) :
    execClientRhr addr start count s = .refused .responseExceedsCapacity ↔
      s.cfg.rxCap < responseLength count := by
  constructor
  · intro h
    obtain ⟨hover, -⟩ | ⟨-, hr | hr⟩ := execClientRhr_refused hfree h
    · exact hover
    · cases hr
    · cases hr
  · intro hover
    rw [execClientRhr, whenFree_of_free _ _ hfree, if_pos hover]

/-- Settles O43: the three lengths are computed, the default capacity holds the longest response, and the
capacity check is the one place of an exchange that refuses for this reason. -/
theorem responseBufferLength : Obligations.ResponseBufferLength := by
  unfold Obligations.ResponseBufferLength
  refine ⟨rfl, rfl, rfl, responseLength_le_default, ?_⟩
  intro addr start count s hfree
  exact (execClientRhr_refused_responseExceedsCapacity_iff addr start count hfree).symm

end Sys2Proof.Machine
end

section
/-! Proofs of the checksum section (spec/40_crc_engine.md): the shift step (rule R110), the input byte (rule
R111), the trailer (rule R113), the length guard of `CRC.VERIFY` (rule R117), and what both operations depend
on and touch (rule R122). -/

namespace Sys2Proof.Machine

/-! ## The shift step and the input byte -/

/-- The constant of the shift step has bits 15, 13 and 0 set (R110). -/
theorem getLsbD_crcConstant {i : Nat} (hi : i < 16) :
    (0xA001#16).getLsbD i = (i == 15 || i == 13 || i == 0) := by
  revert i
  decide

theorem getLsbD_crcBit (r : U16) {i : Nat} (hi : i < 16) :
    (crcBit r).getLsbD i = (r.getLsbD (i + 1) ^^ (r.getLsbD 0 && (i == 15 || i == 13 || i == 0))) := by
  cases hbit : r.getLsbD 0 with
  | false => simp [crcBit_clear r hbit, Nat.add_comm 1 i]
  | true => simp [crcBit_set r hbit, Nat.add_comm 1 i, getLsbD_crcConstant hi]

/-- Settles O10: the rule bit by bit is `getLsbD_crcBit`; the examples are computed. -/
theorem shiftStepBitByBit : Obligations.ShiftStepBitByBit := by
  unfold Obligations.ShiftStepBitByBit
  exact ⟨fun r _ hi => getLsbD_crcBit r hi, by decide, by decide, by decide, by decide⟩

theorem crcByte_eq_iterate (r : U16) (b : Byte) : crcByte r b = crcBit^[8] (r ^^^ b.setWidth 16) := rfl

/-- A byte XORed into a value leaves its high byte alone. -/
theorem hi8_xor_setWidth (r : U16) (b : Byte) : hi8 (r ^^^ b.setWidth 16) = hi8 r := by
  ext i hi
  simp [hi8]

/-- A byte XORed into a value is XORed into its low byte. -/
theorem lo8_xor_setWidth (r : U16) (b : Byte) : lo8 (r ^^^ b.setWidth 16) = lo8 r ^^^ b := by
  simp [lo8, BitVec.setWidth_xor]

/-- Settles O11: the value of which eight shift steps are taken is `r` with the byte XORed in, whose high and
low byte the two lemmas above give. -/
theorem inputByteStep : Obligations.InputByteStep := by
  unfold Obligations.InputByteStep
  exact ⟨fun r b => ⟨r ^^^ b.setWidth 16, hi8_xor_setWidth r b, lo8_xor_setWidth r b,
    crcByte_eq_iterate r b⟩, by decide, by decide, by decide, by decide⟩

/-! ## The trailer -/

theorem lo8_eq_extractLsb' (v : U16) : lo8 v = v.extractLsb' 0 8 := rfl

theorem hi8_eq_extractLsb' (v : U16) : hi8 v = v.extractLsb' 8 8 := rfl

@[simp] theorem trailer_regOfBytes (t0 t1 : Byte) : trailer (regOfBytes t1 t0) = [t0, t1] := by
  simp [trailer]

theorem regOfBytes_of_trailer {v : U16} {t0 t1 : Byte} (h : trailer v = [t0, t1]) : regOfBytes t1 t0 = v := by
  cases h
  exact regOfBytes_hi8_lo8 v

/-- Settles O13: the trailer is the two bytes of the value, and assembling them is `regOfBytes`. -/
theorem trailerIsLowByteFirst : Obligations.TrailerIsLowByteFirst := by
  unfold Obligations.TrailerIsLowByteFirst
  refine ⟨fun v => ?_, trailer_regOfBytes, fun _ _ _ => regOfBytes_of_trailer, by decide⟩
  rw [trailer, lo8_eq_extractLsb', hi8_eq_extractLsb']

/-! ## The two operations on a free block -/

theorem exec_crcCompute_of_free (input : List Byte) {s : State} (hfree : s.running = none) :
    exec (.crcCompute input) s = .next (((s.loadInput input).runChecksum input).complete
      (.checksum (lo8 (crc16 input)) (hi8 (crc16 input)))) :=
  whenFree_of_free s _ hfree

theorem exec_crcVerify_of_free (input : List Byte) {s : State} (hfree : s.running = none) :
    exec (.crcVerify input) s = .next (s.verifyFrame input) :=
  whenFree_of_free s _ hfree

/-- On a free block the error exit writes the output and nothing else. -/
theorem State.raise_of_free {s : State} (hfree : s.running = none) (e : Err) :
    s.raise e = { s with out := some { err := e, data := none } } := by
  rw [State.raise, ← hfree]

theorem State.verifyFrame_short (s : State) {f : List Byte} (hshort : f.length < 2) :
    s.verifyFrame f = (s.loadInput f).raise .malformedFrame := by
  obtain ⟨-, h⟩ | ⟨hlong, -⟩ := s.verifyFrame_cases f
  · exact h
  · omega

/-- Settles O17: below 2 bytes the verifier raises before any checksum, on a block that stays free. -/
theorem crcVerifyGuardsShortInput : Obligations.CrcVerifyGuardsShortInput := by
  unfold Obligations.CrcVerifyGuardsShortInput
  intro input s hfree hshort
  rw [exec_crcVerify_of_free input hfree, State.verifyFrame_short s hshort,
    State.raise_of_free (s := s.loadInput input) hfree]
  rfl

/-- The verifier's output, a function of the frame alone. -/
theorem State.verifyFrame_out (s : State) (f : List Byte) :
    (s.verifyFrame f).out = some (if f.length < 2 then { err := .malformedFrame, data := none }
      else { err := .noError, data := some (.validity (ownChecksum f)) }) := by
  obtain ⟨hshort, h⟩ | ⟨hlong, h⟩ := s.verifyFrame_cases f
  · simp [h, hshort]
  · simp [h, Nat.not_lt.mpr hlong]

/-- Settles O20: on a free block each operation ends at once, in an output that names no state; the frame is
that of the updates it consists of. -/
theorem crcOperationsArePure : Obligations.CrcOperationsArePure := by
  unfold Obligations.CrcOperationsArePure
  rintro input i (rfl | rfl) s s' hfree hfree'
  · exact ⟨_, _, exec_crcCompute_of_free input hfree, exec_crcCompute_of_free input hfree', by simp⟩
  · exact ⟨_, _, exec_crcVerify_of_free input hfree, exec_crcVerify_of_free input hfree',
      by simp [State.verifyFrame_out]⟩

end Sys2Proof.Machine
end

section
/-! Proofs of the frame builder section (spec/41_frame_builder.md): the built frame has 8 bytes and its own
checksum (rule R141), the function code is an operand (rule R143), and what `FRAME.BUILD` depends on and touches
(rule R144). -/

namespace Sys2Proof.Machine

theorem exec_frameBuild_of_free (addr fc : Byte) (start count : U16) {s : State} (hfree : s.running = none) :
    exec (.frameBuild addr fc start count) s =
      .next (((s.loadBuild addr fc start count).buildRequest fc).complete
        (.frame (requestFrame addr fc start count))) :=
  whenFree_of_free s _ hfree

/-! ## The frame and its checksum -/

theorem ownChecksum_requestFrame (addr fc : Byte) (start count : U16) :
    ownChecksum (requestFrame addr fc start count) = true :=
  ownChecksum_withTrailer _

/-- From 2 bytes on the verifier leaves its comparison in `VALID` (R116). -/
theorem State.verifyFrame_valid (s : State) {f : List Byte} (hlong : 2 ≤ f.length) :
    (s.verifyFrame f).valid = some (ownChecksum f) := by
  simp [State.valid, State.verifyFrame_out, Nat.not_lt.mpr hlong]

theorem State.verifyFrame_requestFrame_valid (s : State) (addr fc : Byte) (start count : U16) :
    (s.verifyFrame (requestFrame addr fc start count)).valid = some true := by
  rw [s.verifyFrame_valid (by simp [requestLength]), ownChecksum_requestFrame]

/-- Settles O24: `TXF` holds the request frame, whose trailer is its own checksum, and the verifier finds
just that. -/
theorem builtFrameIsEightBytesAndValid : Obligations.BuiltFrameIsEightBytesAndValid := by
  unfold Obligations.BuiltFrameIsEightBytesAndValid
  intro addr fc start count s hfree
  refine ⟨_, _, exec_frameBuild_of_free addr fc start count hfree, ?_, ?_,
    exec_crcVerify_of_free _ hfree, ?_⟩
  · simp [requestLength]
  · simp
  · simpa using State.verifyFrame_requestFrame_valid _ addr fc start count

/-! ## The function code -/

theorem requestPrefix_set_one (addr fc fc' : Byte) (start count : U16) :
    (requestPrefix addr fc start count).set 1 fc' = requestPrefix addr fc' start count := rfl

/-- The rule's example, a frame of function code 16 (R143). -/
theorem requestFrame_example_fc16 :
    requestFrame 0xFF#8 0x10#8 0x1234#16 0xFFFF#16 =
      [0xFF#8, 0x10#8, 0x12#8, 0x34#8, 0xFF#8, 0xFF#8, 0x90#8, 0xD1#8] := by
  decide +kernel

/-- Settles O25: the first six bytes of the built frame are the request prefix, in which the function code is
the byte at offset 1. -/
theorem functionCodeIsAnOperand : Obligations.FunctionCodeIsAnOperand := by
  unfold Obligations.FunctionCodeIsAnOperand
  constructor
  · intro addr fc fc' start count s hfree
    refine ⟨_, _, exec_frameBuild_of_free addr fc start count hfree,
      exec_frameBuild_of_free addr fc' start count hfree, ?_, ?_⟩
    · simp [State.err]
    · simp [requestPrefix_set_one]
  · intro s hfree
    exact ⟨_, exec_frameBuild_of_free _ _ _ _ hfree, requestFrame_example_fc16⟩

/-! ## What the builder depends on and touches -/

/-- Settles O26: the builder's next state is a chain of named updates; what it leaves in `TXF` and in the output
names no state, and none of the updates writes an element of the exchange. -/
theorem frameBuildIsPure : Obligations.FrameBuildIsPure := by
  unfold Obligations.FrameBuildIsPure
  intro addr fc start count s s' hfree hfree'
  exact ⟨_, _, exec_frameBuild_of_free addr fc start count hfree,
    exec_frameBuild_of_free addr fc start count hfree', by simp⟩

end Sys2Proof.Machine
end

section
/-! Proofs of the response decoder section (spec/42_response_decoder.md): the two views of a register (rules R150
to R152), what `FRAME.DECODE` leaves in the state after each verdict (rules R154, R155, R157), and what the verdict
depends on: the optional byte count (rule R159), nothing else in the header (rule R160), no odd data byte (rule
R161). -/

namespace Sys2Proof.Machine

/-! ## The two views of a register -/

/-- Settles O28: the two views are inverse to each other by the laws of `regOfBytes`, `hi8` and `lo8`; the examples
are computed. -/
theorem registerViewsLoseNothing : Obligations.RegisterViewsLoseNothing := by
  unfold Obligations.RegisterViewsLoseNothing
  refine ⟨fun _ _ => rfl, fun v => ?_, by decide, by decide, by decide, by decide, regOfBytes_hi8_lo8,
    fun hi lo => ?_⟩
  · rw [bytesOfReg, hi8_eq_extractLsb', lo8_eq_extractLsb']
  · rw [bytesOfReg, hi8_regOfBytes, lo8_regOfBytes]

/-! ## The registers of a run of data bytes -/

/-- Register `i` of a run of data bytes is the 16-bit field at offset `2i`, where that is inside the run (R157). -/
theorem regsOfData_getElem? : ∀ (d : List Byte) (i : Nat), (regsOfData d)[i]? = memRead2 d (2 * i)
  | [], i => by simp [regsOfData, memRead2]
  | [_], i => by simp [regsOfData, memRead2]
  | _ :: _ :: _, 0 => rfl
  | hi :: lo :: rest, i + 1 => by
    simp [regsOfData, memRead2, Nat.mul_succ, regsOfData_getElem? rest i]

/-- Register `i` of a frame is the field at offset `3 + 2i`, read before the trailer (R157, R158). -/
theorem extractRegs_getElem? {f : List Byte} {i : Nat} (hi : i < computedCount f) :
    (extractRegs f)[i]? = memRead2 f (3 + 2 * i) := by
  have hlo : 3 + (2 * i + 1) < f.length - 2 := by
    unfold computedCount at hi
    omega
  have hhi : 3 + 2 * i < f.length - 2 := by omega
  simp only [extractRegs, payloadPrefix, regsOfData_getElem?, memRead2, List.getElem?_drop,
    List.getElem?_take_of_lt hhi, List.getElem?_take_of_lt hlo, Nat.add_assoc]

/-- A byte behind whole registers belongs to none (R161). -/
theorem regsOfData_dataBytes_append_byte (regs : List U16) (x : Byte) :
    regsOfData (dataBytes regs ++ [x]) = regs := by
  induction regs with
  | nil => rfl
  | cons r rs ih => simp [dataBytes_cons, regsOfData, ih]

/-! ## The decoder's verdict -/

theorem ownChecksum_eq_false_iff (f : List Byte) :
    ownChecksum f = false ↔ f.drop (f.length - 2) ≠ trailer (crc16 (f.take (f.length - 2))) :=
  beq_eq_false_iff_ne

theorem byteCountAgrees_iff {f : List Byte} {b : Byte} (hb : f[2]? = some b) :
    byteCountAgrees f = true ↔ b.toNat = 2 * computedCount f := by
  simp [byteCountAgrees, hb]

theorem decodeVerdict_crcMismatch (cb : Bool) {f : List Byte} (hlong : 5 ≤ f.length)
    (hsum : ownChecksum f = false) : decodeVerdict cb f = .error .crcMismatch := by
  simp [decodeVerdict, Nat.not_lt.mpr hlong, hsum]

/-- Behind the checksum gate the byte count decides, and only where it is checked (R159). -/
theorem decodeVerdict_of_ownChecksum (cb : Bool) {f : List Byte} (hlong : 5 ≤ f.length)
    (hsum : ownChecksum f = true) :
    decodeVerdict cb f =
      if cb = true ∧ byteCountAgrees f = false then .error .malformedFrame else .ok (extractRegs f) := by
  simp [decodeVerdict, Nat.not_lt.mpr hlong, hsum]

/-- The verdict on a frame that carries its own checksum names neither of its first two bytes (R160). -/
theorem decodeVerdict_withTrailer (cb : Bool) (a c bc : Byte) (data : List Byte) :
    decodeVerdict cb (withTrailer ([a, c, bc] ++ data)) =
      if cb = true ∧ bc.toNat ≠ 2 * (data.length / 2) then .error .malformedFrame
      else .ok (regsOfData data) := by
  have hregs : extractRegs (withTrailer ([a, c, bc] ++ data)) = regsOfData data := by
    rw [extractRegs, withTrailer, trailer, payloadPrefix_append]
    rfl
  have hcount : computedCount (withTrailer ([a, c, bc] ++ data)) = data.length / 2 := by
    simp [computedCount]
  have hagree := byteCountAgrees_iff (f := withTrailer ([a, c, bc] ++ data)) (b := bc) rfl
  rw [hcount, ← not_iff_not, Bool.not_eq_true] at hagree
  rw [decodeVerdict_of_ownChecksum cb (by simp) (ownChecksum_withTrailer _), hregs]
  simp only [hagree, ne_eq]

/-! ## The operation on a free block -/

theorem exec_frameDecode_of_free (f : List Byte) (n : U16) {s : State} (hfree : s.running = none) :
    exec (.frameDecode f n) s = .next (s.decodeResponse f n) :=
  whenFree_of_free s _ hfree

/-- On a free block a decode that ends well writes `REGS` and the output and nothing else. -/
theorem State.deliver_ok_of_free {s : State} (hfree : s.running = none) (regs : List U16) :
    s.deliver (.ok regs) =
      { s with regs := some regs, out := some { err := .noError, data := some (.registers regs) } } := by
  rw [State.deliver_ok, State.complete, ← hfree]

/-- On a free block a decode that ends with an error empties `REGS`, writes the output and nothing else. -/
theorem State.deliver_error_of_free {s : State} (hfree : s.running = none) (e : Err) :
    s.deliver (.error e) = { s with regs := none, out := some { err := e, data := none } } := by
  rw [State.deliver_error, State.raise, ← hfree]

/-- Behind the length guard a decode loads its operands, computes the checksum of all but the trailer and delivers
its verdict; `BI` and `K` hold free values. -/
theorem State.decodeResponse_eq_deliver (s : State) {f : List Byte} (n : U16) (hlong : 5 ≤ f.length) :
    ∃ bi k, s.decodeResponse f n =
      State.deliver { s with
        input := f, reqcnt := n, rxb := f, crc := crc16 (f.take (f.length - 2)), bi := bi, k := k }
        (decodeVerdict s.cfg.checkByteCount f) :=
  ⟨_, _, s.decodeResponse_long f n hlong⟩

/-- Settles O30: the length guard ends the decode with the operands loaded and nothing computed. -/
theorem decodeGuardsLengthFirst : Obligations.DecodeGuardsLengthFirst := by
  unfold Obligations.DecodeGuardsLengthFirst
  intro f n s hfree hshort
  rw [exec_frameDecode_of_free f n hfree, State.decodeResponse_short s f n hshort,
    State.deliver_error_of_free (by simpa using hfree)]
  rfl

/-- Settles O31: behind the length guard the checksum gate is the next to end the decode. -/
theorem decodeChecksumGate : Obligations.DecodeChecksumGate := by
  unfold Obligations.DecodeChecksumGate
  intro f n s hfree hlong hne
  have hv := decodeVerdict_crcMismatch s.cfg.checkByteCount hlong ((ownChecksum_eq_false_iff f).mpr hne)
  obtain ⟨bi, k, h⟩ := s.decodeResponse_eq_deliver n hlong
  rw [hv, State.deliver_error_of_free (by exact hfree)] at h
  exact ⟨bi, k, by rw [exec_frameDecode_of_free f n hfree, h]⟩

/-- Settles O29: the verdict is the registers of the frame, as many as the computed count says and each the 16-bit
field at its offset. -/
theorem frameDecodeCompletes : Obligations.FrameDecodeCompletes := by
  unfold Obligations.FrameDecodeCompletes
  intro f n s hfree hlong hsum hagree
  have hv : decodeVerdict s.cfg.checkByteCount f = .ok (extractRegs f) := by
    rw [decodeVerdict_of_ownChecksum _ hlong hsum, if_neg]
    rintro ⟨hcheck, hdiffers⟩
    exact Bool.eq_false_iff.mp hdiffers (hagree hcheck)
  obtain ⟨bi, k, h⟩ := s.decodeResponse_eq_deliver n hlong
  rw [hv, State.deliver_ok_of_free (by exact hfree)] at h
  refine ⟨bi, k, extractRegs f, by rw [exec_frameDecode_of_free f n hfree, h], extractRegs_length f, ?_⟩
  intro i hi
  rw [extractRegs_length] at hi
  have hbefore : 4 + 2 * i ≤ f.length - 3 := by
    unfold computedCount at hi
    omega
  refine ⟨hbefore, f[3 + 2 * i], f[4 + 2 * i], List.getElem?_eq_getElem _, List.getElem?_eq_getElem _, ?_⟩
  rw [extractRegs_getElem? hi, memRead2_eq f (3 + 2 * i) (by omega)]
  simp only [regOfBytes, show 3 + 2 * i + 1 = 4 + 2 * i by omega]

/-! ## What the verdict depends on -/

theorem State.decodeResponse_of_ok {s : State} {f : List Byte} {regs : List U16} (n : U16)
    (hv : decodeVerdict s.cfg.checkByteCount f = .ok regs) :
    (s.decodeResponse f n).out = some { err := .noError, data := some (.registers regs) } ∧
      (s.decodeResponse f n).regs = some regs := by
  simpa [hv] using s.decodeResponse_verdict f n

theorem State.decodeResponse_of_error {s : State} {f : List Byte} {e : Err} (n : U16)
    (hv : decodeVerdict s.cfg.checkByteCount f = .error e) :
    (s.decodeResponse f n).out = some { err := e, data := none } ∧
      (s.decodeResponse f n).regs = none := by
  simpa [hv] using s.decodeResponse_verdict f n

/-- The output is the verdict's: the requested count and the bytes have no other way into it (R160). -/
theorem State.decodeResponse_out_congr {s : State} {f f' : List Byte} (n n' : U16)
    (hv : decodeVerdict s.cfg.checkByteCount f' = decodeVerdict s.cfg.checkByteCount f) :
    (s.decodeResponse f' n').out = (s.decodeResponse f n).out := by
  rw [(s.decodeResponse_verdict f' n').1, (s.decodeResponse_verdict f n).1, hv]

/-- The rule's example, a byte count of 255 before one register (R159). -/
theorem withTrailer_example_byteCount :
    withTrailer ([0x01#8, 0x03#8, 0xFF#8] ++ [0x12#8, 0x34#8]) =
      [0x01#8, 0x03#8, 0xFF#8, 0x12#8, 0x34#8, 0x24#8, 0xC3#8] := by
  decide +kernel

/-- Settles O32: behind the checksum gate the error class is the byte count's, an 8-bit field that differs from
every `2c` beyond 254. -/
theorem byteCountCheckIsOptional : Obligations.ByteCountCheckIsOptional := by
  unfold Obligations.ByteCountCheckIsOptional
  constructor
  · intro f n s hfree hlong hsum
    obtain ⟨b, hb⟩ : ∃ b, f[2]? = some b := ⟨_, List.getElem?_eq_getElem (by omega)⟩
    have hdiffers : byteCountAgrees f = false ↔ b.toNat ≠ 2 * ((f.length - 5) / 2) := by
      rw [← Bool.not_eq_true, byteCountAgrees_iff hb, computedCount]
    have hv := decodeVerdict_of_ownChecksum s.cfg.checkByteCount hlong hsum
    simp only [hdiffers] at hv
    have herr : (s.decodeResponse f n).err =
        some (if s.cfg.checkByteCount = true ∧ b.toNat ≠ 2 * ((f.length - 5) / 2)
          then .malformedFrame else .noError) := by
      split at hv
      · next hbad => rw [if_pos hbad, State.err, (State.decodeResponse_of_error n hv).1, Option.map_some]
      · next hgood => rw [if_neg hgood, State.err, (State.decodeResponse_of_ok n hv).1, Option.map_some]
    refine ⟨_, b, exec_frameDecode_of_free f n hfree, hb, herr, ?_, ?_⟩
    · intro hcheck hmany
      have hbyte : b.toNat < 256 := b.isLt
      rw [herr, if_pos ⟨hcheck, by omega⟩]
    · intro hcheck hne
      rw [if_pos ⟨hcheck, hne⟩] at hv
      obtain ⟨bi, k, h⟩ := s.decodeResponse_eq_deliver n hlong
      exact ⟨bi, k, by rw [h, hv, State.deliver_error_of_free (by exact hfree)]⟩
  · intro s hfree
    refine ⟨_, exec_frameDecode_of_free _ _ hfree, ?_⟩
    have hv := decodeVerdict_withTrailer s.cfg.checkByteCount 0x01#8 0x03#8 0xFF#8 [0x12#8, 0x34#8]
    rw [withTrailer_example_byteCount] at hv
    split
    · next hcheck => exact (State.decodeResponse_of_error _ (hv.trans (if_pos ⟨hcheck, by decide⟩))).2
    · next hoff => exact (State.decodeResponse_of_ok _ (hv.trans (if_neg fun h => hoff h.1))).2

/-- The rule's example, a foreign address and function code (R160). -/
theorem withTrailer_example_addressAndFunction :
    withTrailer ([0x02#8, 0x04#8, 0x02#8] ++ [0x01#8, 0x02#8]) =
      [0x02#8, 0x04#8, 0x02#8, 0x01#8, 0x02#8, 0x7D#8, 0x61#8] := by
  decide +kernel

/-- The rule's example, four registers where two were requested (R160). -/
theorem withTrailer_example_fourRegisters :
    withTrailer ([0x01#8, 0x03#8, 0x08#8] ++
        [0x00#8, 0x01#8, 0x00#8, 0x02#8, 0x00#8, 0x03#8, 0x00#8, 0x04#8]) =
      [0x01#8, 0x03#8, 0x08#8, 0x00#8, 0x01#8, 0x00#8, 0x02#8, 0x00#8, 0x03#8, 0x00#8, 0x04#8,
        0x0D#8, 0x14#8] := by
  decide +kernel

/-- A frame with its own checksum whose byte count, where checked, counts its registers decodes to them. -/
theorem State.decodeResponse_withTrailer {s : State} (a c : Byte) {bc : Byte} {data : List Byte} (n : U16)
    (hagree : s.cfg.checkByteCount = true → bc.toNat = 2 * (data.length / 2)) :
    (s.decodeResponse (withTrailer ([a, c, bc] ++ data)) n).out =
        some { err := .noError, data := some (.registers (regsOfData data)) } ∧
      (s.decodeResponse (withTrailer ([a, c, bc] ++ data)) n).regs = some (regsOfData data) := by
  apply State.decodeResponse_of_ok
  rw [decodeVerdict_withTrailer, if_neg]
  rintro ⟨hcheck, hne⟩
  exact hne (hagree hcheck)

/-- Settles O33: the verdict on a frame with its own checksum is a function of the byte count and the data, and
the output is the verdict's. -/
theorem decoderComparesNothingElse : Obligations.DecoderComparesNothingElse := by
  unfold Obligations.DecoderComparesNothingElse
  refine ⟨?_, fun s hfree => ⟨?_, ?_⟩⟩
  · intro a c a' c' bc data n n' s hfree
    refine ⟨_, _, exec_frameDecode_of_free _ n hfree, exec_frameDecode_of_free _ n' hfree,
      State.decodeResponse_out_congr n n' ?_, fun hoff => ?_⟩
    · rw [decodeVerdict_withTrailer, decodeVerdict_withTrailer]
    · obtain ⟨hout, hregs⟩ :=
        State.decodeResponse_withTrailer (s := s) (bc := bc) (data := data) a c n (by simp [hoff])
      rw [State.err, State.nreg, hout, hregs, ← regsOfData_length]
      exact ⟨rfl, rfl⟩
  · rw [← withTrailer_example_addressAndFunction]
    exact ⟨_, exec_frameDecode_of_free _ _ hfree,
      (State.decodeResponse_withTrailer _ _ _ fun _ => rfl).2⟩
  · rw [← withTrailer_example_fourRegisters]
    exact ⟨_, exec_frameDecode_of_free _ _ hfree,
      (State.decodeResponse_withTrailer _ _ _ fun _ => rfl).2⟩

/-- The rule's example, three data bytes (R161). -/
theorem withTrailer_example_oddByte :
    withTrailer ([0x01#8, 0x03#8, 0x06#8] ++ [0xAE#8, 0x41#8, 0x56#8]) =
      [0x01#8, 0x03#8, 0x06#8, 0xAE#8, 0x41#8, 0x56#8, 0x94#8, 0xCD#8] := by
  decide +kernel

/-- Settles O34: the odd byte changes neither the registers of the data nor half their length. -/
theorem oddDataByteIsIgnored : Obligations.OddDataByteIsIgnored := by
  unfold Obligations.OddDataByteIsIgnored
  constructor
  · intro a c bc x regs n s hfree hcount
    have hhalf : (dataBytes regs ++ [x]).length / 2 = regs.length := by
      rw [List.length_append, dataBytes_length, List.length_singleton]
      omega
    refine ⟨_, exec_frameDecode_of_free _ n hfree, ?_⟩
    rw [List.append_assoc]
    simpa [regsOfData_dataBytes_append_byte] using
      State.decodeResponse_withTrailer (s := s) (data := dataBytes regs ++ [x]) a c n
        fun hcheck => by rw [hhalf, hcount hcheck]
  · intro s hfree hoff
    rw [← withTrailer_example_oddByte]
    exact ⟨_, exec_frameDecode_of_free _ _ hfree,
      (State.decodeResponse_withTrailer _ _ _ (by simp [hoff])).2⟩

end Sys2Proof.Machine
end

section
/-! Proofs of the Modbus client section (spec/43_modbus_client.md): the states in which an exchange has issued its
write and its read, and what becomes of it there (rules R177 to R182); the moves of `CST` (rule R184); the
transactions it issues (rules R180, R185); and that no operation hands anything on to the next (rule R186). -/

namespace Sys2Proof.Machine

/-! ## The exchange with its write and its read issued -/

/-- An exchange whose flush has passed, with the operands loaded, the request built and its write issued; `BI` and
`K` are dead there (R178, log entry 5). `exec_clientRhr_eq_afterWrite` ties it to the operation. -/
def State.writeIssued (s : State) (addr : Byte) (start count : U16) (bi : Nat) (k : Fin 8) : State :=
  { s with
    addr := addr, start := start, count := count
    crc := crc16 (requestPrefix addr 0x03#8 start count), bi := bi, k := k
    txf := requestFrame addr 0x03#8 start count, regs := none, cst := .idle, out := none
    flushAnswers := s.flushRest
    bus := s.bus ++ (if s.cfg.flushEn = true then [.flush] else []) ++
      [.write (requestFrame addr 0x03#8 start count)] }

/-- The same exchange after a write that took all 8 bytes, with its read issued (R180, R184).
`exec_clientRhr_eq_afterRead` ties it to the operation. -/
def State.readIssued (s : State) (addr : Byte) (start count : U16) (bi : Nat) (k : Fin 8)
    (wrest : List WriteAnswer) : State :=
  { s.writeIssued addr start count bi k with
    cst := .awaitingResponse, writeAnswers := wrest
    bus := s.bus ++ exchangeTransactions s.cfg addr start count }

section Issue

variable {addr : Byte} {start count : U16} {s : State}

theorem exec_clientRhr_eq_afterWrite (hfree : s.running = none) (hfits : responseLength count ≤ s.cfg.rxCap)
    (hf : s.FlushPasses) :
    ∃ bi k, exec (.clientRhr addr start count) s = afterWrite (s.writeIssued addr start count bi k) :=
  ⟨_, _, execClientRhr_of_flushPasses hfree hfits hf⟩

theorem exec_clientRhr_eq_afterRead {wrest : List WriteAnswer} (hfree : s.running = none)
    (hfits : responseLength count ≤ s.cfg.rxCap) (hf : s.FlushPasses)
    (hw : s.writeAnswers = { accepted := requestLength, status := .ok } :: wrest) :
    ∃ bi k, exec (.clientRhr addr start count) s = afterRead (s.readIssued addr start count bi k wrest) := by
  obtain ⟨bi, k, h⟩ := exec_clientRhr_eq_afterWrite (addr := addr) (start := start) hfree hfits hf
  refine ⟨bi, k, ?_⟩
  rw [h, afterWrite_of_accepted (s := s.writeIssued addr start count bi k) hw]
  simp [State.readIssued, State.writeIssued, State.written, State.awaitResponse, State.transact,
    exchangeTransactions, hfree]

theorem exec_clientRhr_of_flushEn (hfree : s.running = none) (hfits : responseLength count ≤ s.cfg.rxCap)
    (hen : s.cfg.flushEn = true) :
    exec (.clientRhr addr start count) s = afterFlush ((s.loadExchange addr start count).transact .flush) := by
  rw [exec, execClientRhr, whenFree_of_free _ _ hfree, if_neg (Nat.not_lt.mpr hfits), if_pos hen]

end Issue

/-! ## The error exits -/

/-- A failed flush that aborts ends the exchange (R177). -/
theorem afterFlush_of_aborting {s : State} {rest : List Status} (ha : s.flushAnswers = .error :: rest)
    (habort : s.cfg.flushErrAborts = true) :
    afterFlush s = .next ((s.flushed rest).raise .transportFlush) := by
  simp [afterFlush, ha, habort]

/-- A write within the contract that failed or fell short ends the exchange (R179). -/
theorem afterWrite_of_failed {s : State} {a : WriteAnswer} {rest : List WriteAnswer}
    (ha : s.writeAnswers = a :: rest) (hle : a.accepted ≤ requestLength)
    (hbad : a.status = .error ∨ a.accepted < requestLength) :
    afterWrite s = .next ((s.written rest).raise .transportWrite) := by
  simp [afterWrite, ha, Nat.not_lt.mpr hle, hbad]

/-- A read within the contract that failed ends the exchange, whatever bytes came (R181). -/
theorem afterRead_of_error {s : State} {b : List Byte} {rest : List ReadAnswer}
    (h : s.readAnswers = { bytes := b, status := .error } :: rest) (hb : b.length ≤ responseLength s.count) :
    afterRead s = .next ((s.received b rest).raise .transportRead) := by
  simp [afterRead, h, Nat.not_lt.mpr hb]

/-- Settles O40: an aborting flush ends the exchange at its first exit; an ignored one passes, and what remains of
the answers is the same as behind an answer ok. -/
theorem failedFlush : Obligations.FailedFlush := by
  unfold Obligations.FailedFlush
  intro addr start count s rest hfree hfits hen ha
  constructor
  · intro habort
    rw [exec_clientRhr_of_flushEn hfree hfits hen,
      afterFlush_of_aborting (s := (s.loadExchange addr start count).transact .flush) ha habort,
      State.raise_of_free rfl, State.flushed, ← hfree]
    rfl
  · intro hignore
    have hpass : s.FlushPasses := fun _ => ⟨_, _, ha, .inr hignore⟩
    have hpass' : State.FlushPasses { s with flushAnswers := .ok :: rest } := fun _ => ⟨_, _, rfl, .inl rfl⟩
    simp only [exec]
    rw [execClientRhr_of_flushPasses hfree hfits hpass,
      execClientRhr_of_flushPasses (by exact hfree) (by exact hfits) hpass']
    simp [State.flushRest, State.loadExchange, hen, ha]

/-- Settles O41: the exchange gets to its write, which ends it. -/
theorem failedWrite : Obligations.FailedWrite := by
  unfold Obligations.FailedWrite
  intro addr start count s a rest hfree hfits hf ha hle hbad
  obtain ⟨bi, k, h⟩ := exec_clientRhr_eq_afterWrite (addr := addr) (start := start) hfree hfits hf
  refine ⟨bi, k, ?_⟩
  rw [h, afterWrite_of_failed (s := s.writeIssued addr start count bi k) ha hle hbad, State.raise_of_free rfl,
    State.written, ← hfree]
  rfl

/-! ## The decoder inside the exchange -/

/-- What a decode leaves in the output and in `REGS` is a function of the bytes and of `CFG.CHECK_BYTECOUNT`. -/
theorem State.decodeResponse_result_congr {s s' : State} (hcfg : s.cfg = s'.cfg) (f : List Byte) (n n' : U16) :
    (s.decodeResponse f n).out = (s'.decodeResponse f n').out ∧
      (s.decodeResponse f n).regs = (s'.decodeResponse f n').regs := by
  obtain ⟨hout, hregs⟩ := s.decodeResponse_verdict f n
  obtain ⟨hout', hregs'⟩ := s'.decodeResponse_verdict f n'
  rw [hout, hregs, hout', hregs', hcfg]
  exact ⟨rfl, rfl⟩

/-- A decode writes its operands, the checksum from 5 bytes on and its results, and leaves the block free. -/
theorem State.decodeResponse_frame (s : State) (f : List Byte) (n : U16) :
    ∃ bi k, s.decodeResponse f n = { s with
      input := f, reqcnt := n, rxb := f
      crc := (if f.length < 5 then s.crc else crc16 (f.take (f.length - 2))), bi := bi, k := k
      running := none, regs := (s.decodeResponse f n).regs, out := (s.decodeResponse f n).out } := by
  by_cases hshort : f.length < 5
  · rw [if_pos hshort, State.decodeResponse_short s f n hshort]
    exact ⟨_, _, rfl⟩
  · obtain ⟨bi, k, h⟩ := s.decodeResponse_eq_deliver n (Nat.not_lt.mp hshort)
    refine ⟨bi, k, ?_⟩
    rw [if_neg hshort, h]
    cases decodeVerdict s.cfg.checkByteCount f with
    | ok regs => rfl
    | error e => rfl

theorem State.decodeResponse_err (s : State) (f : List Byte) (n : U16) :
    (s.decodeResponse f n).err = some (match decodeVerdict s.cfg.checkByteCount f with
      | .ok _ => .noError
      | .error e => e) := by
  cases hv : decodeVerdict s.cfg.checkByteCount f with
  | ok regs => simp [State.err, (State.decodeResponse_of_ok n hv).1]
  | error e => simp [State.err, (State.decodeResponse_of_error n hv).1]

theorem State.decodeResponse_err_ne_transportRead (s : State) (f : List Byte) (n : U16) :
    (s.decodeResponse f n).err ≠ some .transportRead := by
  rw [State.decodeResponse_err]
  cases hv : decodeVerdict s.cfg.checkByteCount f with
  | ok regs => simp
  | error e => obtain rfl | rfl := decodeVerdict_error hv <;> simp

/-- A decode without error leaves as many registers as the computed count says (R156). -/
theorem State.decodeResponse_nreg {s : State} {f : List Byte} {n : U16}
    (h : (s.decodeResponse f n).err = some .noError) :
    (s.decodeResponse f n).nreg = some (computedCount f) := by
  rw [State.decodeResponse_err] at h
  obtain ⟨-, hv⟩ | ⟨-, -, hv⟩ | ⟨-, -, -, -, hv⟩ | ⟨-, -, -, hv⟩ :=
    decodeVerdict_cases s.cfg.checkByteCount f
  · simp [hv] at h
  · simp [hv] at h
  · simp [hv] at h
  · rw [State.nreg, (State.decodeResponse_of_ok n hv).2, Option.map_some, extractRegs_length]

/-- Settles O42: the exchange gets to its read, whose error ends it before the decoder; without an error it ends
with a verdict of the decoder, which is no transport error. -/
theorem failedRead : Obligations.FailedRead := by
  unfold Obligations.FailedRead
  constructor
  · intro addr start count s b wrest rrest hfree hfits hf hw hrd hb
    obtain ⟨bi, k, h⟩ := exec_clientRhr_eq_afterRead (addr := addr) (start := start) hfree hfits hf hw
    refine ⟨bi, k, ?_⟩
    rw [h, afterRead_of_error (s := s.readIssued addr start count bi k wrest) hrd hb, State.raise_of_free rfl,
      State.received, ← hfree]
    rfl
  · intro addr start count s b wrest rrest hfree hfits hf hw hrd hb
    obtain ⟨bi, k, h⟩ := exec_clientRhr_eq_afterRead (addr := addr) (start := start) hfree hfits hf hw
    rw [h, afterRead_of_ok (s := s.readIssued addr start count bi k wrest) hrd hb]
    exact ⟨_, rfl, State.decodeResponse_running _ _ _, State.decodeResponse_err_ne_transportRead _ _ _⟩

/-- Settles O39: the exchange ends in the decoder's next state on the bytes read, whose results are those of the
operation on the same bytes, and whose error and register count follow the verdict. -/
theorem clientPassesTheBytesRead : Obligations.ClientPassesTheBytesRead := by
  unfold Obligations.ClientPassesTheBytesRead
  intro addr start count s b wrest rrest hfree hfits hf hw hrd hb
  obtain ⟨bi₀, k₀, h⟩ := exec_clientRhr_eq_afterRead (addr := addr) (start := start) hfree hfits hf hw
  rw [h, afterRead_of_ok (s := s.readIssued addr start count bi₀ k₀ wrest) hrd hb]
  set r := (s.readIssued addr start count bi₀ k₀ wrest).received b rrest
  obtain ⟨bi, k, hframe⟩ := r.decodeResponse_frame b count
  obtain ⟨hout, hregs⟩ := State.decodeResponse_result_congr (s := r) (s' := s) rfl b count count
  refine ⟨_, _, bi, k, rfl, exec_frameDecode_of_free b count hfree, ?_, ?_, ?_, ?_⟩
  · rw [← hfree] at hframe
    rw [← hout, ← hregs]
    exact hframe
  · intro hshort
    rw [State.decodeResponse_err]
    simp [decodeVerdict, hshort]
  · intro hlong hsum
    rw [State.decodeResponse_err, decodeVerdict_crcMismatch _ hlong hsum]
  · intro hok
    rw [State.decodeResponse_nreg hok]
    refine ⟨rfl, fun hfull => ?_⟩
    rw [computedCount, hfull]
    congr 1
    omega

/-! ## The moves of `CST` -/

/-- `CST` says whether the read is awaited (R184). -/
def State.CstTracksRead (s : State) : Prop := s.cst = .awaitingResponse ↔ s.running = some .read

theorem State.cstTracksRead_of_idle {s : State} (hcst : s.cst = .idle) (hrun : s.running ≠ some .read) :
    s.CstTracksRead := by
  simp [State.CstTracksRead, hcst, hrun]

theorem afterRead_cstTracksRead {s t : State} (hcst : s.cst = .awaitingResponse) (h : afterRead s = .next t) :
    t.CstTracksRead := by
  obtain ⟨-, rfl⟩ | ⟨_, _, -, -, ⟨-, rfl⟩ | ⟨-, rfl⟩⟩ := afterRead_cases h
  · simp [State.CstTracksRead, hcst]
  · exact State.cstTracksRead_of_idle (by simp) (by simp)
  · exact State.cstTracksRead_of_idle (by simp) (by simp)

/-- From an idle client, `CST` moves only behind a write answered ok with all 8 bytes. -/
theorem afterWrite_cstTracksRead {s t : State} (hcst : s.cst = .idle) (h : afterWrite s = .next t) :
    t.CstTracksRead ∧ (t.cst = .awaitingResponse →
      ∃ rest, s.writeAnswers = { accepted := requestLength, status := .ok } :: rest) := by
  obtain ⟨-, rfl⟩ | ⟨a, rest, ha, -, ⟨-, rfl⟩ | ⟨hok, hall, hread⟩⟩ := afterWrite_cases h
  · exact ⟨State.cstTracksRead_of_idle (by simpa using hcst) (by simp), by simp [hcst]⟩
  · exact ⟨State.cstTracksRead_of_idle (by simpa using hcst) (by simp), by simp [hcst]⟩
  · exact ⟨afterRead_cstTracksRead (by simp) hread, fun _ => ⟨rest, by rw [ha, ← hok, ← hall]⟩⟩

theorem buildAndWrite_cstTracksRead {s t : State} (hcst : s.cst = .idle) (h : buildAndWrite s = .next t) :
    t.CstTracksRead ∧ (t.cst = .awaitingResponse →
      ∃ rest, s.writeAnswers = { accepted := requestLength, status := .ok } :: rest) := by
  simpa using afterWrite_cstTracksRead (by simpa using hcst) h

theorem afterFlush_cstTracksRead {s t : State} (hcst : s.cst = .idle) (h : afterFlush s = .next t) :
    t.CstTracksRead ∧ (t.cst = .awaitingResponse →
      ∃ rest, s.writeAnswers = { accepted := requestLength, status := .ok } :: rest) := by
  obtain ⟨-, rfl⟩ | ⟨_, _, -, ⟨-, -, rfl⟩ | ⟨-, hwrite⟩⟩ := afterFlush_cases h
  · exact ⟨State.cstTracksRead_of_idle (by simpa using hcst) (by simp), by simp [hcst]⟩
  · exact ⟨State.cstTracksRead_of_idle (by simpa using hcst) (by simp), by simp [hcst]⟩
  · simpa using buildAndWrite_cstTracksRead (by simpa using hcst) hwrite

theorem execClientRhr_cstTracksRead {addr : Byte} {start count : U16} {s t : State}
    (h : execClientRhr addr start count s = .next t) :
    t.CstTracksRead ∧ (t.cst = .awaitingResponse →
      ∃ rest, s.writeAnswers = { accepted := requestLength, status := .ok } :: rest) := by
  obtain ⟨-, -, ⟨-, hflush⟩ | ⟨-, hwrite⟩⟩ := execClientRhr_cases h
  · simpa using afterFlush_cstTracksRead (by simp) hflush
  · simpa using buildAndWrite_cstTracksRead (by simp) hwrite

theorem resumeExchange_cstTracksRead {w : Wait} {s t : State} (hrun : s.running = some w)
    (hs : s.CstTracksRead) (h : resumeExchange w s = .next t) : t.CstTracksRead := by
  have hidle : w ≠ .read → s.cst = .idle := by
    intro hw
    cases hcst : s.cst with
    | idle => rfl
    | awaitingResponse => exact absurd (Option.some.inj (hrun.symm.trans (hs.mp hcst))) hw
  obtain ⟨rfl, -, hflush⟩ | ⟨rfl, -, hwrite⟩ | ⟨rfl, -, hread⟩ := resumeExchange_cases h
  · exact (afterFlush_cstTracksRead (hidle (by decide)) hflush).1
  · exact (afterWrite_cstTracksRead (hidle (by decide)) hwrite).1
  · exact afterRead_cstTracksRead (hs.mpr hrun) hread

theorem step_of_running {w : Wait} {s : State} (hrun : s.running = some w) : step s = resumeExchange w s := by
  simp [step, hrun]

/-- Settles O45: `CST` tracks the read through every phase; without an answer the issued read is awaited. -/
theorem clientStateMoves : Obligations.ClientStateMoves := by
  unfold Obligations.ClientStateMoves
  refine ⟨fun addr start count s t h => execClientRhr_cstTracksRead h, ?_, ?_⟩
  · intro w s t hrun hs h
    rw [step_of_running hrun] at h
    exact resumeExchange_cstTracksRead hrun hs h
  · intro addr start count s rest hfree hfits hf hw hnone
    obtain ⟨bi, k, h⟩ := exec_clientRhr_eq_afterRead (addr := addr) (start := start) hfree hfits hf hw
    have hwait : afterRead (s.readIssued addr start count bi k rest) =
        .next ((s.readIssued addr start count bi k rest).await .read) := by
      simp [afterRead, State.readIssued, State.writeIssued, hnone]
    exact ⟨_, h.trans hwait, rfl, rfl, rfl⟩

/-! ## The transactions of an exchange -/

/-- From a record `bus` an exchange of which `planned` was still to be issued has got to `t` by issuing `issued`:
the first of it, in order, and all of it if `t` has completed without error (R185). -/
structure Issues (bus : List Transaction) (t : State) (issued planned : List Transaction) : Prop where
  isPrefix : issued <+: planned
  record : t.bus = bus ++ issued
  complete : t.err = some .noError → issued = planned

/-- An exchange that has issued nothing more and has not completed. -/
theorem Issues.nil {bus : List Transaction} {t : State} (planned : List Transaction) (hbus : t.bus = bus)
    (hne : t.err ≠ some .noError) : Issues bus t [] planned :=
  ⟨List.nil_prefix, by rw [hbus, List.append_nil], fun hok => absurd hok hne⟩

/-- A transaction issued before the rest comes first. -/
theorem Issues.cons {bus : List Transaction} {t : State} {x : Transaction} {issued planned : List Transaction}
    (h : Issues (bus ++ [x]) t issued planned) : Issues bus t (x :: issued) (x :: planned) where
  isPrefix := (List.prefix_cons_inj x).mpr h.isPrefix
  record := by rw [h.record, List.append_assoc, List.singleton_append]
  complete hok := by rw [h.complete hok]

theorem State.raise_err (s : State) (e : Err) : (s.raise e).err = some e := rfl

/-- An operation that waits and had no output has not completed. -/
theorem State.await_err_ne {s : State} (hout : s.out = none) (w : Wait) (e : Err) :
    (s.await w).err ≠ some e := by
  simp [State.err, hout]

theorem afterRead_issues {s t : State} (h : afterRead s = .next t) : Issues s.bus t [] [] := by
  have hbus : t.bus = s.bus := by
    obtain ⟨-, rfl⟩ | ⟨_, _, -, -, ⟨-, rfl⟩ | ⟨-, rfl⟩⟩ := afterRead_cases h <;> simp
  exact ⟨List.prefix_rfl, by rw [hbus, List.append_nil], fun _ => rfl⟩

theorem afterWrite_issues {s t : State} (hout : s.out = none) (h : afterWrite s = .next t) :
    ∃ issued, Issues s.bus t issued [.read (responseLength s.count)] := by
  obtain ⟨-, rfl⟩ | ⟨_, _, -, -, ⟨-, rfl⟩ | ⟨-, -, hread⟩⟩ := afterWrite_cases h
  · exact ⟨[], .nil _ rfl (State.await_err_ne hout .write .noError)⟩
  · exact ⟨[], .nil _ rfl (by simp [State.raise_err])⟩
  · exact ⟨_, (afterRead_issues hread).cons⟩

/-- Where an exchange gets to its write, that is the first transaction from there on. -/
theorem buildAndWrite_issues {s t : State} (hout : s.out = none) (h : buildAndWrite s = .next t) :
    ∃ issued, Issues s.bus t (.write (requestFrame s.addr 0x03#8 s.start s.count) :: issued)
      [.write (requestFrame s.addr 0x03#8 s.start s.count), .read (responseLength s.count)] := by
  obtain ⟨issued, hi⟩ := afterWrite_issues (by simpa using hout) h
  exact ⟨issued, hi.cons⟩

theorem afterFlush_issues {s t : State} (hout : s.out = none) (h : afterFlush s = .next t) :
    ∃ issued, Issues s.bus t issued
      [.write (requestFrame s.addr 0x03#8 s.start s.count), .read (responseLength s.count)] := by
  obtain ⟨-, rfl⟩ | ⟨_, _, -, ⟨-, -, rfl⟩ | ⟨-, hwrite⟩⟩ := afterFlush_cases h
  · exact ⟨[], .nil _ rfl (State.await_err_ne hout .flush .noError)⟩
  · exact ⟨[], .nil _ rfl (by simp [State.raise_err])⟩
  · obtain ⟨issued, hi⟩ := buildAndWrite_issues (by simpa using hout) hwrite
    exact ⟨_, hi⟩

theorem execClientRhr_issues {addr : Byte} {start count : U16} {s t : State}
    (h : execClientRhr addr start count s = .next t) :
    ∃ x issued, Issues s.bus t (x :: issued) (exchangeTransactions s.cfg addr start count) := by
  obtain ⟨-, -, ⟨hen, hflush⟩ | ⟨hdis, hwrite⟩⟩ := execClientRhr_cases h
  · obtain ⟨issued, hi⟩ := afterFlush_issues (by simp) hflush
    exact ⟨.flush, issued, by simpa [exchangeTransactions, hen] using hi.cons⟩
  · obtain ⟨issued, hi⟩ := buildAndWrite_issues (by simp) hwrite
    exact ⟨_, issued, by simpa [exchangeTransactions, hdis] using hi⟩

/-- Settles O46: each phase issues the first of what is left, in order, and the issue of an exchange begins with one
transaction. -/
theorem oneWriteOneRead : Obligations.OneWriteOneRead := by
  unfold Obligations.OneWriteOneRead
  constructor
  · intro addr start count s t h
    obtain ⟨x, issued, hi⟩ := execClientRhr_issues h
    exact ⟨x :: issued, List.cons_ne_nil _ _, hi.isPrefix, hi.record, hi.complete⟩
  · intro w s t hrun hout h
    rw [step_of_running hrun] at h
    obtain ⟨rfl, -, hflush⟩ | ⟨rfl, -, hwrite⟩ | ⟨rfl, -, hread⟩ := resumeExchange_cases h
    · obtain ⟨issued, hi⟩ := afterFlush_issues hout hflush
      exact ⟨issued, _, rfl, hi.isPrefix, hi.record, hi.complete⟩
    · obtain ⟨issued, hi⟩ := afterWrite_issues hout hwrite
      exact ⟨issued, _, rfl, hi.isPrefix, hi.record, hi.complete⟩
    · have hi := afterRead_issues hread
      exact ⟨[], _, rfl, hi.isPrefix, hi.record, hi.complete⟩

/-! ## Nothing carries over -/

/-- `t` and `t'` look the same to host and transport, where their runs began with the records `bus` and `bus'`. -/
structure LookAlike (bus bus' : List Transaction) (t t' : State) : Prop where
  out : t.out = t'.out
  running : t.running = t'.running
  cst : t.cst = t'.cst
  flushAnswers : t.flushAnswers = t'.flushAnswers
  writeAnswers : t.writeAnswers = t'.writeAnswers
  readAnswers : t.readAnswers = t'.readAnswers
  record : ∃ issued, t.bus = bus ++ issued ∧ t'.bus = bus' ++ issued

/-- Two outcomes of an instruction that host and transport cannot tell apart; none faults. -/
inductive SameOutcome (bus bus' : List Transaction) :
    Host.Outcome State Fault Refusal → Host.Outcome State Fault Refusal → Prop where
  | next {t t' : State} (h : LookAlike bus bus' t t') : SameOutcome bus bus' (.next t) (.next t')
  | refused (r : Refusal) : SameOutcome bus bus' (.refused r) (.refused r)

/-- Two states of the same exchange: they agree in all that its coming phases read (R186). -/
structure SameExchange (bus bus' : List Transaction) (s s' : State) : Prop
    extends LookAlike bus bus' s s' where
  cfg : s.cfg = s'.cfg
  addr : s.addr = s'.addr
  start : s.start = s'.start
  count : s.count = s'.count

section Exchange

variable {bus bus' : List Transaction} {s s' : State}

theorem LookAlike.await (h : LookAlike bus bus' s s') (w : Wait) :
    LookAlike bus bus' (s.await w) (s'.await w) :=
  { h with running := rfl }

theorem LookAlike.raise (h : LookAlike bus bus' s s') (e : Err) :
    LookAlike bus bus' (s.raise e) (s'.raise e) :=
  { h with out := rfl, running := rfl }

theorem SameExchange.transact (h : SameExchange bus bus' s s') (x : Transaction) :
    SameExchange bus bus' (s.transact x) (s'.transact x) := by
  obtain ⟨issued, hs, hs'⟩ := h.record
  exact { h with record := ⟨issued ++ [x], by simp [hs], by simp [hs']⟩ }

theorem SameExchange.flushed (h : SameExchange bus bus' s s') (rest : List Status) :
    SameExchange bus bus' (s.flushed rest) (s'.flushed rest) :=
  { h with running := rfl, flushAnswers := rfl }

theorem SameExchange.buildRequest (h : SameExchange bus bus' s s') (fc : Byte) :
    SameExchange bus bus' (s.buildRequest fc) (s'.buildRequest fc) :=
  { h with }

theorem SameExchange.written (h : SameExchange bus bus' s s') (rest : List WriteAnswer) :
    SameExchange bus bus' (s.written rest) (s'.written rest) :=
  { h with running := rfl, writeAnswers := rfl }

theorem SameExchange.awaitResponse (h : SameExchange bus bus' s s') :
    SameExchange bus bus' s.awaitResponse s'.awaitResponse :=
  { h with cst := rfl }

theorem SameExchange.received (h : SameExchange bus bus' s s') (b : List Byte) (rest : List ReadAnswer) :
    SameExchange bus bus' (s.received b rest) (s'.received b rest) :=
  { h with running := rfl, readAnswers := rfl, cst := rfl }

theorem SameExchange.lookAlike_decodeResponse (h : SameExchange bus bus' s s') (f : List Byte) (n : U16) :
    LookAlike bus bus' (s.decodeResponse f n) (s'.decodeResponse f n) where
  out := (State.decodeResponse_result_congr h.cfg f n n).1
  running := by simp
  cst := by simpa using h.cst
  flushAnswers := by simpa using h.flushAnswers
  writeAnswers := by simpa using h.writeAnswers
  readAnswers := by simpa using h.readAnswers
  record := by simpa using h.record

theorem SameExchange.sameOutcome_afterRead (h : SameExchange bus bus' s s') :
    SameOutcome bus bus' (afterRead s) (afterRead s') := by
  simp only [afterRead, ← h.readAnswers, ← h.count]
  split
  · exact .next (h.toLookAlike.await .read)
  · next a rest _ =>
    split
    · exact .refused _
    · split
      · exact .next ((h.received a.bytes rest).toLookAlike.raise .transportRead)
      · exact .next ((h.received a.bytes rest).lookAlike_decodeResponse a.bytes s.count)

theorem SameExchange.sameOutcome_afterWrite (h : SameExchange bus bus' s s') :
    SameOutcome bus bus' (afterWrite s) (afterWrite s') := by
  simp only [afterWrite, ← h.writeAnswers, ← h.count]
  split
  · exact .next (h.toLookAlike.await .write)
  · next a rest _ =>
    split
    · exact .refused _
    · split
      · exact .next ((h.written rest).toLookAlike.raise .transportWrite)
      · exact ((h.written rest).awaitResponse.transact _).sameOutcome_afterRead

theorem SameExchange.sameOutcome_buildAndWrite (h : SameExchange bus bus' s s') :
    SameOutcome bus bus' (buildAndWrite s) (buildAndWrite s') := by
  simp only [buildAndWrite, ← h.addr, ← h.start, ← h.count]
  exact ((h.buildRequest _).transact _).sameOutcome_afterWrite

theorem SameExchange.sameOutcome_afterFlush (h : SameExchange bus bus' s s') :
    SameOutcome bus bus' (afterFlush s) (afterFlush s') := by
  simp only [afterFlush, ← h.flushAnswers, ← h.cfg]
  split
  · exact .next (h.toLookAlike.await .flush)
  · next a rest _ =>
    split
    · exact .next ((h.flushed rest).toLookAlike.raise .transportFlush)
    · exact (h.flushed rest).sameOutcome_buildAndWrite

end Exchange

/-- Two free states at the issue of an instruction: they agree in `CFG`, `CST` and the transport's answers;
their other elements are whatever earlier operations left there (R186). -/
structure SameAtIssue (s s' : State) : Prop where
  free : s.running = none
  free' : s'.running = none
  cfg : s.cfg = s'.cfg
  cst : s.cst = s'.cst
  flushAnswers : s.flushAnswers = s'.flushAnswers
  writeAnswers : s.writeAnswers = s'.writeAnswers
  readAnswers : s.readAnswers = s'.readAnswers

/-- In `t` the block is free, and the client state and the transport are as they were in `s`. -/
structure LeavesTransport (s t : State) : Prop where
  running : t.running = none
  cst : t.cst = s.cst
  flushAnswers : t.flushAnswers = s.flushAnswers
  writeAnswers : t.writeAnswers = s.writeAnswers
  readAnswers : t.readAnswers = s.readAnswers
  bus : t.bus = s.bus

theorem State.verifyFrame_leavesTransport (s : State) (f : List Byte) : LeavesTransport s (s.verifyFrame f) := by
  constructor <;> simp

theorem State.decodeResponse_leavesTransport (s : State) (f : List Byte) (n : U16) :
    LeavesTransport s (s.decodeResponse f n) := by
  constructor <;> simp

section Statelessness

variable {s s' : State}

/-- An operation that does not use the transport only has to give the same output. -/
theorem SameAtIssue.sameOutcome_of_leavesTransport {t t' : State} (h : SameAtIssue s s')
    (ht : LeavesTransport s t) (ht' : LeavesTransport s' t') (hout : t.out = t'.out) :
    SameOutcome s.bus s'.bus (.next t) (.next t') :=
  .next {
    out := hout
    running := ht.running.trans ht'.running.symm
    cst := by rw [ht.cst, ht'.cst, h.cst]
    flushAnswers := by rw [ht.flushAnswers, ht'.flushAnswers, h.flushAnswers]
    writeAnswers := by rw [ht.writeAnswers, ht'.writeAnswers, h.writeAnswers]
    readAnswers := by rw [ht.readAnswers, ht'.readAnswers, h.readAnswers]
    record := ⟨[], by simp [ht.bus], by simp [ht'.bus]⟩ }

theorem SameAtIssue.loadExchange (h : SameAtIssue s s') (addr : Byte) (start count : U16) :
    SameExchange s.bus s'.bus (s.loadExchange addr start count) (s'.loadExchange addr start count) :=
  { h with
    running := h.free.trans h.free'.symm
    out := rfl, cst := rfl, addr := rfl, start := rfl, count := rfl
    record := ⟨[], by simp, by simp⟩ }

theorem SameAtIssue.sameOutcome_execClientRhr (h : SameAtIssue s s') (addr : Byte) (start count : U16) :
    SameOutcome s.bus s'.bus (execClientRhr addr start count s) (execClientRhr addr start count s') := by
  simp only [execClientRhr, whenFree_of_free _ _ h.free, whenFree_of_free _ _ h.free', ← h.cfg]
  split
  · exact .refused _
  · split
    · exact ((h.loadExchange addr start count).transact _).sameOutcome_afterFlush
    · exact (h.loadExchange addr start count).sameOutcome_buildAndWrite

theorem SameAtIssue.sameOutcome_verifyFrame (h : SameAtIssue s s') (f : List Byte) :
    SameOutcome s.bus s'.bus (.next (s.verifyFrame f)) (.next (s'.verifyFrame f)) :=
  h.sameOutcome_of_leavesTransport (s.verifyFrame_leavesTransport f) (s'.verifyFrame_leavesTransport f)
    (by rw [State.verifyFrame_out, State.verifyFrame_out])

theorem SameAtIssue.sameOutcome_decodeResponse (h : SameAtIssue s s') (f : List Byte) (n n' : U16) :
    SameOutcome s.bus s'.bus (.next (s.decodeResponse f n)) (.next (s'.decodeResponse f n')) :=
  h.sameOutcome_of_leavesTransport (s.decodeResponse_leavesTransport f n)
    (s'.decodeResponse_leavesTransport f n') (State.decodeResponse_result_congr h.cfg f n n').1

theorem SameAtIssue.sameOutcome_exec (h : SameAtIssue s s') (i : Instr) :
    SameOutcome s.bus s'.bus (exec i s) (exec i s') := by
  cases i with
  | crcCompute input =>
    rw [exec_crcCompute_of_free input h.free, exec_crcCompute_of_free input h.free']
    exact h.sameOutcome_of_leavesTransport ⟨rfl, rfl, rfl, rfl, rfl, rfl⟩ ⟨rfl, rfl, rfl, rfl, rfl, rfl⟩ rfl
  | crcVerify input =>
    rw [exec_crcVerify_of_free input h.free, exec_crcVerify_of_free input h.free']
    exact h.sameOutcome_verifyFrame input
  | frameBuild addr fc start count =>
    rw [exec_frameBuild_of_free addr fc start count h.free, exec_frameBuild_of_free addr fc start count h.free']
    exact h.sameOutcome_of_leavesTransport ⟨rfl, rfl, rfl, rfl, rfl, rfl⟩ ⟨rfl, rfl, rfl, rfl, rfl, rfl⟩ rfl
  | frameDecode input reqcnt =>
    rw [exec_frameDecode_of_free input reqcnt h.free, exec_frameDecode_of_free input reqcnt h.free']
    exact h.sameOutcome_decodeResponse input reqcnt reqcnt
  | clientRhr addr start count => exact h.sameOutcome_execClientRhr addr start count
  | reqFc03 addr start count crcLo crcHi =>
    simp only [exec, execReqFc03, whenFree_of_free _ _ h.free, whenFree_of_free _ _ h.free']
    exact h.sameOutcome_verifyFrame _
  | rspFc03 addr byteCount regs crcLo crcHi =>
    simp only [exec, execRspFc03, whenFree_of_free _ _ h.free, whenFree_of_free _ _ h.free']
    exact h.sameOutcome_decodeResponse _ s.reqcnt s'.reqcnt
  | reqFc16 addr d2 d3 d4 d5 crcLo crcHi => exact .refused _

end Statelessness

/-- Settles O57: an operation without a transport has an output that names no state, and the phases of an exchange
keep two states of the same exchange together. -/
theorem operationsAreStateless : Obligations.OperationsAreStateless := by
  unfold Obligations.OperationsAreStateless
  intro i s s' hfree hfree' hcfg hcst hfl hwr hrd
  have h := SameAtIssue.sameOutcome_exec ⟨hfree, hfree', hcfg, hcst, hfl, hwr, hrd⟩ i
  generalize exec i s = o at h ⊢
  generalize exec i s' = o' at h ⊢
  cases h with
  | next h => exact ⟨h.out, h.running, h.cst, h.flushAnswers, h.writeAnswers, h.readAnswers, h.record⟩
  | refused r => rfl

end Sys2Proof.Machine
end

section
/-! Proofs of the errors section (spec/60_exceptions.md): an output has an error or data and not both, and an
operation that delivers registers leaves `REGS` without a value exactly on an error (rule R206); the first error in
the fixed order of the steps is the one reported (rule R210). -/

namespace Sys2Proof.Machine

/-! ## An error or data -/

/-- The output, where it has a value, has an error or data and not both, and its registers are those in `REGS`. -/
structure State.OutputSound (s : State) : Prop where
  error_iff : ∀ c, s.out = some c → (c.err ≠ .noError ↔ c.data = none)
  registers : ∀ c regs, s.out = some c → c.data = some (.registers regs) → s.regs = some regs

theorem State.outputSound_of_out_eq_some {s : State} {c : Completion} (hout : s.out = some c)
    (herr : c.err ≠ .noError ↔ c.data = none)
    (hregs : ∀ regs, c.data = some (.registers regs) → s.regs = some regs) : s.OutputSound where
  error_iff c' hc' := by
    obtain rfl := Option.some.inj (hout.symm.trans hc')
    exact herr
  registers c' regs hc' := by
    obtain rfl := Option.some.inj (hout.symm.trans hc')
    exact hregs regs

/-- How an operation whose data are registers can stand: it waits, or it has delivered them to output and `REGS`, or
it has ended with an error and neither holds any (R206). -/
inductive State.RegistersOrError (s : State) : Prop where
  | waiting (hout : s.out = none)
  | delivered (regs : List U16) (hout : s.out = some { err := .noError, data := some (.registers regs) })
      (hregs : s.regs = some regs)
  | failed (e : Err) (he : e ≠ .noError) (hout : s.out = some { err := e, data := none })
      (hregs : s.regs = none)

theorem State.RegistersOrError.outputSound {s : State} (h : s.RegistersOrError) : s.OutputSound := by
  cases h with
  | waiting hout => constructor <;> simp [hout]
  | delivered regs hout hregs => exact outputSound_of_out_eq_some hout (by simp) (by simp [hregs])
  | failed e he hout hregs => exact outputSound_of_out_eq_some hout (by simp [he]) (by simp)

theorem State.RegistersOrError.error_iff_regs {s : State} {e : Err} (h : s.RegistersOrError)
    (herr : s.err = some e) : e ≠ .noError ↔ s.regs = none := by
  cases h with
  | waiting hout => simp [State.err, hout] at herr
  | delivered regs hout hregs =>
    obtain rfl : .noError = e := by simpa [State.err, hout] using herr
    simp [hregs]
  | failed e' he hout hregs =>
    obtain rfl : e' = e := by simpa [State.err, hout] using herr
    simp [he, hregs]

/-- An error raised where `REGS` has no value leaves it without one. -/
theorem State.raise_registersOrError {s : State} {e : Err} (hregs : s.regs = none) (he : e ≠ .noError) :
    (s.raise e).RegistersOrError :=
  .failed e he rfl hregs

theorem State.decodeResponse_registersOrError (s : State) (f : List Byte) (n : U16) :
    (s.decodeResponse f n).RegistersOrError := by
  cases hv : decodeVerdict s.cfg.checkByteCount f with
  | ok regs =>
    obtain ⟨hout, hregs⟩ := State.decodeResponse_of_ok n hv
    exact .delivered regs hout hregs
  | error e =>
    obtain ⟨hout, hregs⟩ := State.decodeResponse_of_error n hv
    have he : e ≠ .noError := by
      obtain rfl | rfl := decodeVerdict_error hv <;> decide
    exact .failed e he hout hregs

/-- While an exchange runs, its output and `REGS` have no value; its ends after the read keep them apart. -/
theorem afterRead_registersOrError {s t : State} (hout : s.out = none) (hregs : s.regs = none)
    (h : afterRead s = .next t) : t.RegistersOrError := by
  obtain ⟨-, rfl⟩ | ⟨_, _, -, -, ⟨-, rfl⟩ | ⟨-, rfl⟩⟩ := afterRead_cases h
  · exact .waiting (by simpa using hout)
  · exact State.raise_registersOrError (by simpa using hregs) (by decide)
  · exact State.decodeResponse_registersOrError _ _ _

theorem afterWrite_registersOrError {s t : State} (hout : s.out = none) (hregs : s.regs = none)
    (h : afterWrite s = .next t) : t.RegistersOrError := by
  obtain ⟨-, rfl⟩ | ⟨_, _, -, -, ⟨-, rfl⟩ | ⟨-, -, hread⟩⟩ := afterWrite_cases h
  · exact .waiting (by simpa using hout)
  · exact State.raise_registersOrError (by simpa using hregs) (by decide)
  · exact afterRead_registersOrError (by simpa using hout) (by simpa using hregs) hread

theorem buildAndWrite_registersOrError {s t : State} (hout : s.out = none) (hregs : s.regs = none)
    (h : buildAndWrite s = .next t) : t.RegistersOrError :=
  afterWrite_registersOrError (by simpa using hout) (by simpa using hregs) h

theorem afterFlush_registersOrError {s t : State} (hout : s.out = none) (hregs : s.regs = none)
    (h : afterFlush s = .next t) : t.RegistersOrError := by
  obtain ⟨-, rfl⟩ | ⟨_, _, -, ⟨-, -, rfl⟩ | ⟨-, hwrite⟩⟩ := afterFlush_cases h
  · exact .waiting (by simpa using hout)
  · exact State.raise_registersOrError (by simpa using hregs) (by decide)
  · exact buildAndWrite_registersOrError (by simpa using hout) (by simpa using hregs) hwrite

/-- The issue of an exchange takes the value from the output and from `REGS` (R36), so no phase finds one. -/
theorem execClientRhr_registersOrError {addr : Byte} {start count : U16} {s t : State}
    (h : execClientRhr addr start count s = .next t) : t.RegistersOrError := by
  obtain ⟨-, -, ⟨-, hflush⟩ | ⟨-, hwrite⟩⟩ := execClientRhr_cases h
  · exact afterFlush_registersOrError (by simp) (by simp) hflush
  · exact buildAndWrite_registersOrError (by simp) (by simp) hwrite

/-- An operation that ends in one step has no other next state. -/
theorem eq_of_whenFree_next {s t u : State} (h : whenFree s (.next u) = .next t) : u = t := by
  obtain ⟨-, hgo⟩ := whenFree_cases h
  cases hgo
  rfl

theorem execFrameDecode_registersOrError {f : List Byte} {n : U16} {s t : State}
    (h : execFrameDecode f n s = .next t) : t.RegistersOrError := by
  obtain rfl := eq_of_whenFree_next h
  exact s.decodeResponse_registersOrError f n

/-- An operation that completes with data other than registers. -/
theorem State.complete_outputSound (s : State) {r : Result} (hr : ∀ regs, r ≠ .registers regs) :
    (s.complete r).OutputSound :=
  State.outputSound_of_out_eq_some rfl (by simp) (by simp [hr])

theorem State.verifyFrame_outputSound (s : State) (f : List Byte) : (s.verifyFrame f).OutputSound := by
  obtain ⟨-, h⟩ | ⟨-, h⟩ := s.verifyFrame_cases f
  · rw [h]
    exact State.outputSound_of_out_eq_some rfl (by simp) (by simp)
  · rw [h]
    exact State.complete_outputSound _ nofun

theorem exec_outputSound {i : Instr} {s t : State} (h : exec i s = .next t) : t.OutputSound := by
  cases i with
  | crcCompute input =>
    obtain rfl := eq_of_whenFree_next h
    exact State.complete_outputSound _ nofun
  | crcVerify input =>
    obtain rfl := eq_of_whenFree_next h
    exact s.verifyFrame_outputSound input
  | frameBuild addr fc start count =>
    obtain rfl := eq_of_whenFree_next h
    exact State.complete_outputSound _ nofun
  | frameDecode input reqcnt => exact (execFrameDecode_registersOrError h).outputSound
  | clientRhr addr start count => exact (execClientRhr_registersOrError h).outputSound
  | reqFc03 addr start count crcLo crcHi =>
    obtain rfl := eq_of_whenFree_next h
    exact s.verifyFrame_outputSound _
  | rspFc03 addr byteCount regs crcLo crcHi =>
    obtain rfl := eq_of_whenFree_next h
    exact (s.decodeResponse_registersOrError _ s.reqcnt).outputSound
  | reqFc16 addr d2 d3 d4 d5 crcLo crcHi => cases h

/-- No register is whole in less than two data bytes. -/
theorem regsOfData_eq_nil {data : List Byte} (h : data.length ≤ 1) : regsOfData data = [] := by
  rw [← List.length_eq_zero_iff, regsOfData_length]
  omega

/-- Settles O50: every instruction leaves a sound output; a decode and an exchange moreover clear `REGS` exactly on
an error; and less than two data bytes decode to no registers, which is a completed decode. -/
theorem errorsDeliverNoData : Obligations.ErrorsDeliverNoData := by
  unfold Obligations.ErrorsDeliverNoData
  refine ⟨?_, ?_, ?_⟩
  · intro i s t c h hout
    have hsound := exec_outputSound h
    exact ⟨hsound.error_iff c hout, fun regs => hsound.registers c regs hout⟩
  · rintro i s t e (⟨f, n, rfl⟩ | ⟨a, st, n, rfl⟩) h herr
    · exact (execFrameDecode_registersOrError h).error_iff_regs herr
    · exact (execClientRhr_registersOrError h).error_iff_regs herr
  · intro a c bc data n s hfree hfew hzero
    have hagree : s.cfg.checkByteCount = true → bc.toNat = 2 * (data.length / 2) := by
      intro hcheck
      rw [hzero hcheck, Nat.div_eq_of_lt (by omega)]
      rfl
    have hout := (State.decodeResponse_withTrailer a c n hagree).1
    rw [regsOfData_eq_nil hfew] at hout
    exact ⟨_, exec_frameDecode_of_free _ n hfree, hout⟩

/-! ## The fixed order of the errors -/

/-- The first error of the decoder's steps: length, checksum, checked byte count (R210).
`State.decodeResponse_err_eq_decodeError` ties it to the operation. -/
def decodeError (checkByteCount : Bool) (f : List Byte) : Err :=
  if f.length < 5 then .malformedFrame
  else if ownChecksum f = false then .crcMismatch
  else if checkByteCount = true ∧ byteCountAgrees f = false then .malformedFrame
  else .noError

/-- The first error of an exchange from its read on. `afterRead_endsWith` ties it to the operation. -/
def readError (cfg : Cfg) (r : ReadAnswer) : Err :=
  if r.status = .error then .transportRead else decodeError cfg.checkByteCount r.bytes

/-- The first error of an exchange from its write on. `afterWrite_endsWith` ties it to the operation. -/
def writeError (cfg : Cfg) (w : WriteAnswer) (r : ReadAnswer) : Err :=
  if w.status = .error ∨ w.accepted < requestLength then .transportWrite else readError cfg r

/-- The operation ends, in a free block, with that error class. -/
def EndsWith (o : Host.Outcome State Fault Refusal) (e : Err) : Prop :=
  ∃ t, o = .next t ∧ t.running = none ∧ t.err = some e

theorem State.decodeResponse_err_eq_decodeError (s : State) (f : List Byte) (n : U16) :
    (s.decodeResponse f n).err = some (decodeError s.cfg.checkByteCount f) := by
  rw [State.decodeResponse_err]
  obtain ⟨hshort, hv⟩ | ⟨hlong, hsum, hv⟩ | ⟨hlong, hsum, hcheck, hbc, hv⟩ | ⟨hlong, hsum, hbc, hv⟩ :=
    decodeVerdict_cases s.cfg.checkByteCount f
  · rw [hv]
    simp [decodeError, hshort]
  · rw [hv]
    simp [decodeError, Nat.not_lt.mpr hlong, hsum]
  · rw [hv]
    simp [decodeError, Nat.not_lt.mpr hlong, hsum, hcheck, hbc]
  · rw [hv]
    obtain hbc | hbc := hbc <;> simp [decodeError, Nat.not_lt.mpr hlong, hsum, hbc]

theorem endsWith_raise (s : State) (e : Err) : EndsWith (.next (s.raise e)) e := ⟨_, rfl, rfl, rfl⟩

theorem endsWith_decodeResponse (s : State) (f : List Byte) (n : U16) :
    EndsWith (.next (s.decodeResponse f n)) (decodeError s.cfg.checkByteCount f) :=
  ⟨_, rfl, State.decodeResponse_running _ _ _, State.decodeResponse_err_eq_decodeError _ _ _⟩

theorem afterRead_endsWith {s : State} {r : ReadAnswer} {rest : List ReadAnswer}
    (hr : s.readAnswers = r :: rest) (hle : r.bytes.length ≤ responseLength s.count) :
    EndsWith (afterRead s) (readError s.cfg r) := by
  obtain ⟨b, status⟩ := r
  cases status with
  | error =>
    rw [afterRead_of_error hr hle]
    exact endsWith_raise _ _
  | ok =>
    rw [afterRead_of_ok hr hle]
    exact endsWith_decodeResponse _ _ _

theorem afterWrite_endsWith {s : State} {w : WriteAnswer} {wrest : List WriteAnswer} {r : ReadAnswer}
    {rrest : List ReadAnswer} (hw : s.writeAnswers = w :: wrest) (hr : s.readAnswers = r :: rrest)
    (hkeeps : KeepsContract s.count w r) : EndsWith (afterWrite s) (writeError s.cfg w r) := by
  by_cases hbad : w.status = .error ∨ w.accepted < requestLength
  · rw [afterWrite_of_failed hw hkeeps.write hbad, writeError, if_pos hbad]
    exact endsWith_raise _ _
  · have hgood : w = { accepted := requestLength, status := .ok } := by
      obtain ⟨hok, hfull⟩ := not_or.mp hbad
      obtain ⟨accepted, status⟩ := w
      obtain rfl : accepted = requestLength := le_antisymm hkeeps.write (Nat.not_lt.mp hfull)
      cases status with
      | ok => rfl
      | error => exact absurd rfl hok
    rw [afterWrite_of_accepted (hgood ▸ hw), writeError, if_neg hbad]
    exact afterRead_endsWith hr hkeeps.read

/-- A flush that is answered and does not abort passes. -/
theorem State.flushPasses_of_answered {s : State} {f : Status} {rest : List Status}
    (hf : s.flushAnswers = f :: rest)
    (h : ¬ (s.cfg.flushEn = true ∧ f = .error ∧ s.cfg.flushErrAborts = true)) : s.FlushPasses := by
  intro hen
  refine ⟨f, rest, hf, ?_⟩
  cases f with
  | ok => exact .inl rfl
  | error => exact .inr (Bool.eq_false_iff.mpr fun habort => h ⟨hen, rfl, habort⟩)

/-- With all three answers at hand the first error is the flush's, if that aborts, or else one from the write on. -/
theorem exec_clientRhr_endsWith (addr : Byte) (start : U16) {count : U16} {s : State} {f : Status}
    {frest : List Status} {w : WriteAnswer} {wrest : List WriteAnswer} {r : ReadAnswer}
    {rrest : List ReadAnswer} (hfree : s.running = none) (hfits : responseLength count ≤ s.cfg.rxCap)
    (hf : s.flushAnswers = f :: frest) (hw : s.writeAnswers = w :: wrest)
    (hr : s.readAnswers = r :: rrest) (hkeeps : KeepsContract count w r) :
    EndsWith (exec (.clientRhr addr start count) s)
      (if s.cfg.flushEn = true ∧ f = .error ∧ s.cfg.flushErrAborts = true then .transportFlush
       else writeError s.cfg w r) := by
  split
  · next habort =>
    obtain ⟨hen, rfl, habort⟩ := habort
    rw [exec_clientRhr_of_flushEn hfree hfits hen,
      afterFlush_of_aborting (s := (s.loadExchange addr start count).transact .flush) hf habort]
    exact endsWith_raise _ _
  · next hpass =>
    obtain ⟨bi, k, h⟩ := exec_clientRhr_eq_afterWrite (addr := addr) (start := start) hfree hfits
      (State.flushPasses_of_answered hf hpass)
    rw [h]
    exact afterWrite_endsWith (s := s.writeIssued addr start count bi k) hw hr hkeeps

/-- Settles O52: each phase of an exchange ends with its own error or hands on to the next, and the last is the
decoder, with its three checks in order. -/
theorem firstErrorIsReported : Obligations.FirstErrorIsReported := by
  unfold Obligations.FirstErrorIsReported
  constructor
  · intro addr start count s f frest w wrest r rrest hfree hfits hf hw hr hkeeps
    exact exec_clientRhr_endsWith addr start hfree hfits hf hw hr hkeeps
  · intro f n s hfree
    exact ⟨_, exec_frameDecode_of_free f n hfree, s.decodeResponse_err_eq_decodeError f n⟩

end Sys2Proof.Machine
end

section
/-! Proofs of the encoding section (spec/30_encoding.md): what the decoder reads in each format, and that it and the
encoder are inverse to each other (rules R81 to R92). -/

namespace Sys2Proof.Machine

/-! ## The decoder on the words of each format -/

/-- Taken apart at its trailer, a sequence of any length loses nothing. -/
theorem payloadPrefix_append_trailerOf (f : List Byte) : payloadPrefix f ++ trailerOf f = f :=
  List.take_append_drop _ f

theorem decodeCmd_frameBuild (rest : List Byte) :
    decodeCmd (opFrameBuild :: rest) = decodeBuildOperands rest := rfl

theorem decodeCmd_frameDecode (rest : List Byte) :
    decodeCmd (opFrameDecode :: rest) = decodeDecodeOperands rest := rfl

theorem decodeCmd_clientRhr (rest : List Byte) :
    decodeCmd (opClientRhr :: rest) = decodeRhrOperands rest := rfl

theorem decodeDecodeOperands_append (input : List Byte) (hi lo : Byte) :
    decodeDecodeOperands (input ++ [hi, lo]) = .ok (.frameDecode input (regOfBytes hi lo)) := by
  simp [decodeDecodeOperands]

/-- Operation codes from 5 on are reserved (R88). -/
theorem decodeCmd_reserved {op : Byte} (rest : List Byte) (h : 5 ≤ op.toNat) :
    decodeCmd (op :: rest) = .error (.reservedOperationCode op) := by
  have hne : ∀ code : Byte, code.toNat < 5 → op ≠ code := by
    rintro code hcode rfl
    omega
  rw [decodeCmd, if_neg (hne _ (by decide)), if_neg (hne _ (by decide)), if_neg (hne _ (by decide)),
    if_neg (hne _ (by decide)), if_neg (hne _ (by decide))]

/-- A response frame of whole registers is read by its function code (R82, R85). -/
theorem decodeRspv_of_registers (addr fc byteCount crcLo crcHi : Byte) {regs : List U16}
    (hregs : regs.length ≤ 65535) :
    decodeRspv (addr :: fc :: byteCount :: (dataBytes regs ++ [crcLo, crcHi])) =
      if fc = 0x03#8 then .ok (.rspFc03 addr byteCount regs crcLo crcHi) else .error (.functionCode fc) := by
  have hlen : (dataBytes regs ++ [crcLo, crcHi]).length = 2 * regs.length + 2 := by simp
  have hfits : ¬ ((dataBytes regs ++ [crcLo, crcHi]).length % 2 ≠ 0 ∨
      65535 < ((dataBytes regs ++ [crcLo, crcHi]).length - 2) / 2) := by
    rw [hlen]
    omega
  rw [decodeRspv, if_neg hfits, trailerOf_append, payloadPrefix_append, regsOfData_dataBytes]
  by_cases hfc : fc = 0x03#8 <;> simp [hfc]

/-! ## Decoding an encoding -/

/-- Settles O6: in each row the operand bytes are read back by the laws of the byte order; a response is read back
because it has as many registers as a 16-bit count can ask for. -/
theorem decodeOfEncode : Obligations.DecodeOfEncode := by
  unfold Obligations.DecodeOfEncode
  intro i hwf
  cases i with
  | crcCompute input => rfl
  | crcVerify input => rfl
  | frameBuild addr fc start count =>
    rw [encode, decode, decodeCmd_frameBuild]
    simp [bigEndian, decodeBuildOperands]
  | frameDecode input reqcnt =>
    rw [encode, decode, decodeCmd_frameDecode, bigEndian, decodeDecodeOperands_append, regOfBytes_hi8_lo8]
  | clientRhr addr start count =>
    rw [encode, decode, decodeCmd_clientRhr]
    simp [bigEndian, decodeRhrOperands]
  | reqFc03 addr start count crcLo crcHi =>
    simp [encode, decode, reqFc03Bytes, requestPrefix, decodeReq8]
  | rspFc03 addr byteCount regs crcLo crcHi =>
    obtain ⟨hregs, -⟩ : regs.length ≤ 65535 ∧ _ := by simpa [WellFormed, wellFormed] using hwf
    exact decodeRspv_of_registers addr 0x03#8 byteCount crcLo crcHi hregs
  | reqFc16 addr d2 d3 d4 d5 crcLo crcHi => rfl

/-! ## Encoding what was decoded -/

theorem encode_of_decodeBuildOperands {rest : List Byte} {i : Instr} (h : decodeBuildOperands rest = .ok i) :
    encode i = { fmt := .cmd, bytes := opFrameBuild :: rest } := by
  unfold decodeBuildOperands at h
  split at h <;> cases h
  simp [encode, bigEndian]

theorem encode_of_decodeDecodeOperands {rest : List Byte} {i : Instr} (h : decodeDecodeOperands rest = .ok i) :
    encode i = { fmt := .cmd, bytes := opFrameDecode :: rest } := by
  unfold decodeDecodeOperands at h
  split at h <;> cases h
  next htrailer => simp [encode, bigEndian, ← htrailer, payloadPrefix_append_trailerOf]

theorem encode_of_decodeRhrOperands {rest : List Byte} {i : Instr} (h : decodeRhrOperands rest = .ok i) :
    encode i = { fmt := .cmd, bytes := opClientRhr :: rest } := by
  unfold decodeRhrOperands at h
  split at h <;> cases h
  simp [encode, bigEndian]

theorem encode_of_decodeCmd {bytes : List Byte} {i : Instr} (h : decodeCmd bytes = .ok i) :
    encode i = { fmt := .cmd, bytes := bytes } := by
  cases bytes with
  | nil => cases h
  | cons op rest =>
    simp only [decodeCmd] at h
    split_ifs at h with hcompute hverify hbuild hdecode hrhr
    · cases h; rw [hcompute, encode]
    · cases h; rw [hverify, encode]
    · rw [hbuild, encode_of_decodeBuildOperands h]
    · rw [hdecode, encode_of_decodeDecodeOperands h]
    · rw [hrhr, encode_of_decodeRhrOperands h]

theorem encode_of_decodeReq8 {bytes : List Byte} {i : Instr} (h : decodeReq8 bytes = .ok i) :
    encode i = { fmt := .req8, bytes := bytes } := by
  unfold decodeReq8 at h
  split at h
  · split_ifs at h with hread hwrite <;> cases h
    · simp [encode, reqFc03Bytes, requestPrefix, hread]
    · simp [encode, reqFc16Bytes, hwrite]
  · cases h

/-- The data of a response that decodes are whole registers, so that no byte of them is lost. -/
theorem encode_of_decodeRspv {bytes : List Byte} {i : Instr} (h : decodeRspv bytes = .ok i) :
    encode i = { fmt := .rspv, bytes := bytes } := by
  unfold decodeRspv at h
  split at h
  · next addr fc byteCount rest =>
    split_ifs at h with hlength hfc
    obtain ⟨heven, -⟩ := not_or.mp hlength
    rw [ne_eq, not_not] at heven hfc
    split at h <;> cases h
    next crcLo crcHi htrailer =>
    have hdata : dataBytes (regsOfData (payloadPrefix rest)) = payloadPrefix rest :=
      dataBytes_regsOfData _ (by rw [payloadPrefix, List.length_take]; omega)
    simp [encode, rspFc03Bytes, responsePrefix, hdata, ← htrailer, payloadPrefix_append_trailerOf, hfc]
  · cases h

/-- Settles O7: each format's decoder is undone by the encoder. -/
theorem encodeOfDecode : Obligations.EncodeOfDecode := by
  unfold Obligations.EncodeOfDecode
  rintro ⟨fmt, bytes⟩ i h
  cases fmt with
  | cmd => exact encode_of_decodeCmd h
  | req8 => exact encode_of_decodeReq8 h
  | rspv => exact encode_of_decodeRspv h

/-! ## Steps on issued words -/

/-- Settles O5: the four cases are the branches of `step`. -/
theorem stepRunsTheIssuedInstruction : Obligations.StepRunsTheIssuedInstruction := by
  unfold Obligations.StepRunsTheIssuedInstruction
  intro s
  refine ⟨fun w hrun => step_of_running hrun, ?_, ?_, ?_⟩
  · intro hfree hhost
    simp [step, hfree, hhost]
  · intro word rest i hfree hhost hdecode
    simp [step, hfree, hhost, hdecode]
  · intro word rest e hfree hhost hdecode
    simp [step, hfree, hhost, hdecode]

/-- Settles O8: the five codes select their operand decoders, and a word with any other is refused by the step. -/
theorem operationCodesSelectOperations : Obligations.OperationCodesSelectOperations := by
  unfold Obligations.OperationCodesSelectOperations
  refine ⟨fun _ => rfl, fun _ => rfl, fun _ _ _ _ _ _ => rfl, ?_, fun _ _ _ _ _ => rfl, ?_⟩
  · intro input hi lo
    exact decodeDecodeOperands_append input hi lo
  · intro op rest s more hop hfree hhost
    obtain ⟨-, -, -, hundecodable⟩ := stepRunsTheIssuedInstruction s
    exact hundecodable _ more _ hfree hhost (decodeCmd_reserved rest hop)

/-- Settles O9: each word is read by computation. -/
theorem specWordsDecode : Obligations.SpecWordsDecode := by
  unfold Obligations.SpecWordsDecode
  exact ⟨rfl, rfl, rfl, rfl, rfl, rfl, rfl, rfl⟩

end Sys2Proof.Machine
end

section
/-! Proofs about the checksum and the frames that carry one: the register-level engine (rule R112), the corner values
(rule R121), the whole next states of `CRC.COMPUTE`, `CRC.VERIFY` and `FRAME.BUILD` (rules R115, R116, R140), what a
valid frame excludes (rules R119, R120), and the builder by memory writes and reads (rules R140, R145). -/

namespace Sys2Proof.Machine

/-! ## The register-level engine -/

/-- The eight shift steps of one byte are its step of the fold (R111, R112). -/
theorem engineRun_byte {bytes : List Byte} {j : Nat} {b : Byte} (hb : bytes[j]? = some b) (r : U16) :
    engineRun bytes 8 { crc := r, bi := j, k := 0 } = { crc := crcByte r b, bi := j + 1, k := 0 } := by
  simp [engineRun, engineStep, hb, crcByte, crcBit8]

/-- Settles O12, by induction on the number of bytes: each further byte is eight further steps. -/
theorem engineComputesChecksum : Obligations.EngineComputesChecksum := by
  unfold Obligations.EngineComputesChecksum
  intro bytes j
  induction j with
  | zero => exact fun _ => rfl
  | succ j ih =>
    intro hj
    have hb : bytes[j]? = some bytes[j] := List.getElem?_eq_getElem hj
    calc engineRun bytes (8 * (j + 1)) engineStart
      _ = engineRun bytes 8 (engineRun bytes (8 * j) engineStart) := engineRun_add bytes (8 * j) 8 _
      _ = engineRun bytes 8 { crc := crc16 (bytes.take j), bi := j, k := 0 } := by rw [ih (by omega)]
      _ = { crc := crcByte (crc16 (bytes.take j)) bytes[j], bi := j + 1, k := 0 } := engineRun_byte hb _
      _ = { crc := crc16 (bytes.take (j + 1)), bi := j + 1, k := 0 } := by
        rw [← crc16_append_byte, List.take_append_getElem]

/-- Settles O14: the values are computed. -/
theorem checksumCornerValues : Obligations.ChecksumCornerValues := by
  unfold Obligations.ChecksumCornerValues
  decide +kernel

/-! ## The whole next states -/

/-- On a free block an operation that completes writes its output and nothing else. -/
theorem State.complete_of_free {s : State} (hfree : s.running = none) (r : Result) :
    s.complete r = { s with out := some { err := .noError, data := some r } } := by
  rw [State.complete, ← hfree]

/-- Settles O15: on a free block the operation is its three updates. -/
theorem crcComputeCompletes : Obligations.CrcComputeCompletes := by
  unfold Obligations.CrcComputeCompletes
  intro input s hfree
  have h := exec_crcCompute_of_free input hfree
  rw [State.complete_of_free (by exact hfree)] at h
  exact ⟨_, _, h⟩

/-- On a free block the verifier of a frame with a trailer compares it with the checksum of what is before it. -/
theorem State.verifyFrame_append {s : State} (hfree : s.running = none) (p : List Byte) (lo hi : Byte) :
    ∃ bi k, s.verifyFrame (p ++ [lo, hi]) = { s with
      input := p ++ [lo, hi], crc := crc16 p, bi := bi, k := k
      out := some { err := .noError, data := some (.validity (decide
        (lo = (crc16 p).extractLsb' 0 8 ∧ hi = (crc16 p).extractLsb' 8 8))) } } := by
  obtain ⟨hshort, -⟩ | ⟨-, h⟩ := s.verifyFrame_cases (p ++ [lo, hi])
  · simp at hshort
  · rw [payloadPrefix_append, ownChecksum_append, State.complete_of_free (by exact hfree)] at h
    exact ⟨_, _, h⟩

/-- Settles O16: an input of at least 2 bytes ends in a trailer. -/
theorem crcVerifyCompletes : Obligations.CrcVerifyCompletes := by
  unfold Obligations.CrcVerifyCompletes
  intro input s hfree hlong
  obtain ⟨p, lo, hi, rfl⟩ := exists_prefix_trailer input hlong
  obtain ⟨bi, k, h⟩ := State.verifyFrame_append hfree p lo hi
  have hprefix : (p ++ [lo, hi]).take ((p ++ [lo, hi]).length - 2) = p := payloadPrefix_append p lo hi
  refine ⟨bi, k, lo, hi, by simp, by simp, ?_⟩
  rw [hprefix, exec_crcVerify_of_free _ hfree, h]

/-- Settles O54: a request frame is its first six bytes with a trailer, and is verified as that. -/
theorem requestFrameIsVerified : Obligations.RequestFrameIsVerified := by
  unfold Obligations.RequestFrameIsVerified
  intro addr start count crcLo crcHi s hfree
  obtain ⟨bi, k, h⟩ := State.verifyFrame_append hfree (requestPrefix addr 0x03#8 start count) crcLo crcHi
  refine ⟨bi, k, requestPrefix addr 0x03#8 start count, rfl, ?_⟩
  rw [exec, execReqFc03, whenFree_of_free _ _ hfree, reqFc03Bytes, h]

/-- Settles O21: on a free block the operation is its updates, and the request frame is its six bytes with the two
of their checksum. -/
theorem frameBuildCompletes : Obligations.FrameBuildCompletes := by
  unfold Obligations.FrameBuildCompletes
  intro addr fc start count s hfree
  have h := exec_frameBuild_of_free addr fc start count hfree
  rw [State.complete_of_free (by exact hfree)] at h
  exact ⟨_, _, requestPrefix addr fc start count, _, rfl, rfl, h⟩

/-! ## What a valid frame excludes -/

theorem lo8_setWidth (b : Byte) : lo8 (b.setWidth 16) = b := by
  simp [lo8]

/-- The old bit 0 can be read off bit 15 of the shifted value, and then all the others (R110). -/
theorem crcBit_injective : Function.Injective crcBit := by
  intro r r' h
  have hbits : ∀ i < 16, (crcBit r).getLsbD i = (crcBit r').getLsbD i := fun i _ => by rw [h]
  have hzero : r.getLsbD 0 = r'.getLsbD 0 := by
    have htop := hbits 15 (by decide)
    rw [getLsbD_crcBit r (by decide), getLsbD_crcBit r' (by decide)] at htop
    simpa using htop
  refine BitVec.eq_of_getLsbD_eq fun i hi => ?_
  cases i with
  | zero => exact hzero
  | succ i =>
    have hnext := hbits i (by omega)
    rw [getLsbD_crcBit r (by omega), getLsbD_crcBit r' (by omega), hzero] at hnext
    exact Bool.xor_left_inj.mp hnext

theorem crcBit8_injective : Function.Injective crcBit8 := crcBit_injective.iterate 8

theorem crcByte_left_injective (b : Byte) : Function.Injective fun r => crcByte r b := by
  intro r r' h
  exact (BitVec.xor_left_inj _).mp (crcBit8_injective h)

theorem crcByte_right_injective (r : U16) : Function.Injective (crcByte r) := by
  intro b b' h
  have hwide : b.setWidth 16 = b'.setWidth 16 := (BitVec.xor_right_inj _).mp (crcBit8_injective h)
  rw [← lo8_setWidth b, hwide, lo8_setWidth]

theorem foldl_crcByte_injective (bytes : List Byte) : Function.Injective fun r => bytes.foldl crcByte r := by
  induction bytes with
  | nil => exact Function.injective_id
  | cons b bytes ih => exact ih.comp (crcByte_left_injective b)

/-- Sequences that differ in one byte have different checksums. -/
theorem crc16_set_injective {f : List Byte} {i : Nat} {b b' : Byte} (hb : f[i]? = some b)
    (h : crc16 (f.set i b') = crc16 f) : b' = b := by
  obtain ⟨hi, rfl⟩ := List.getElem?_eq_some_iff.mp hb
  have hf : f = f.take i ++ f[i] :: f.drop (i + 1) := by simp
  rw [List.set_eq_take_append_cons_drop, if_pos hi] at h
  conv at h => rhs; rw [hf]
  simp only [crc16, List.foldl_append, List.foldl_cons] at h
  exact crcByte_right_injective _ (foldl_crcByte_injective _ h)

/-- While the low bits are clear the shift steps only shift. -/
theorem iterate_crcBit_of_low_clear {r : U16} (n : Nat) (h : ∀ i < n, r.getLsbD i = false) :
    crcBit^[n] r = r >>> n := by
  induction n with
  | zero => simp
  | succ n ih =>
    have hbit : (r >>> n).getLsbD 0 = false := by simpa using h n (by omega)
    rw [Function.iterate_succ_apply', ih fun i hi => h i (by omega), crcBit_clear _ hbit,
      BitVec.shiftRight_add]

/-- The low byte of a value, as the next byte, shifts that value's high byte down (R111). -/
theorem crcByte_lo8 (r : U16) : crcByte r (lo8 r) = (hi8 r).setWidth 16 := by
  have hclear : ∀ i < 8, (r ^^^ (lo8 r).setWidth 16).getLsbD i = false := by
    intro i hi
    simp [lo8, hi, show i < 16 by omega]
  rw [crcByte_eq_iterate, iterate_crcBit_of_low_clear 8 hclear]
  ext i hi
  have hinside : r.getLsbD (8 + i) = true → i < 8 := fun h => by
    have := BitVec.lt_of_getLsbD h
    omega
  simpa [lo8, hi8] using hinside

/-- The high byte, as the byte after it, leaves nothing. -/
theorem crcByte_setWidth_self (b : Byte) : crcByte (b.setWidth 16) b = 0x0000#16 := by
  rw [crcByte, BitVec.xor_self]
  decide

/-- A whole valid frame has the checksum zero (R120). -/
theorem crc16_of_ownChecksum {f : List Byte} (hlong : 2 ≤ f.length) (h : ownChecksum f = true) :
    crc16 f = 0x0000#16 := by
  obtain ⟨p, a, b, rfl⟩ := exists_prefix_trailer f hlong
  rw [ownChecksum_append, decide_eq_true_iff] at h
  obtain ⟨rfl, rfl⟩ := h
  rw [crc16_append_two, crcByte_lo8, crcByte_setWidth_self]

/-- What it means that `CRC.VERIFY` finds a frame valid. -/
theorem State.verifyFrame_valid_eq_true_iff (s : State) (f : List Byte) :
    (s.verifyFrame f).valid = some true ↔ 2 ≤ f.length ∧ ownChecksum f = true := by
  by_cases hlong : 2 ≤ f.length
  · simp [s.verifyFrame_valid hlong, hlong]
  · simp [State.valid, State.verifyFrame_out, hlong, Nat.not_le.mp hlong]

theorem execCrcVerify_valid {f : List Byte} {s t : State} (h : exec (.crcVerify f) s = .next t)
    (hvalid : t.valid = some true) : 2 ≤ f.length ∧ ownChecksum f = true := by
  obtain rfl := eq_of_whenFree_next h
  exact (s.verifyFrame_valid_eq_true_iff f).mp hvalid

/-- Settles O19: behind its own checksum a frame's value is zero. -/
theorem validFrameHasZeroResidue : Obligations.ValidFrameHasZeroResidue := by
  unfold Obligations.ValidFrameHasZeroResidue
  intro f s t hfree h hvalid
  obtain ⟨hlong, hsum⟩ := execCrcVerify_valid h hvalid
  have hzero := crc16_of_ownChecksum hlong hsum
  refine ⟨hzero, _, exec_crcCompute_of_free f hfree, ?_⟩
  simp [hzero, lo8, hi8]

/-- A flipped bit changes the byte it is in. -/
theorem xor_shiftLeft_ne (b : Byte) {j : Nat} (hj : j < 8) : b ^^^ (1#8 <<< j) ≠ b := by
  have hbit : ∀ j < 8, 1#8 <<< j ≠ 0#8 := by decide
  intro h
  exact hbit j hj ((BitVec.xor_right_inj b).mp (h.trans BitVec.xor_zero.symm))

/-- Settles O18: the trailer of a valid frame is determined by what is before it, and since a valid frame has the
checksum zero and one byte changes every checksum, no two valid frames differ in one byte. -/
theorem computeThenVerify : Obligations.ComputeThenVerify := by
  unfold Obligations.ComputeThenVerify
  constructor
  · intro p s hfree
    refine ⟨_, _, _, exec_crcCompute_of_free p hfree, rfl, ⟨_, exec_crcVerify_of_free _ hfree, ?_⟩, ?_⟩
    · rw [State.verifyFrame_valid _ (by simp), ownChecksum_append]
      simp
    · intro a b hne
      refine ⟨_, exec_crcVerify_of_free _ hfree, ?_⟩
      rw [State.verifyFrame_valid _ (by simp), ownChecksum_append]
      simpa using hne
  · intro f s t i j b hfree h hvalid hb hj
    obtain ⟨hlong, hsum⟩ := execCrcVerify_valid h hvalid
    have hlong' : 2 ≤ (f.set i (b ^^^ (1#8 <<< j))).length := by simpa using hlong
    refine ⟨_, exec_crcVerify_of_free _ hfree, ?_⟩
    rw [State.verifyFrame_valid _ hlong', Option.some_inj, ← Bool.not_eq_true]
    intro hsum'
    have hsame : crc16 (f.set i (b ^^^ (1#8 <<< j))) = crc16 f := by
      rw [crc16_of_ownChecksum hlong' hsum', crc16_of_ownChecksum hlong hsum]
    exact xor_shiftLeft_ne b hj (crc16_set_injective hb hsame)

/-! ## The builder by memory writes and reads -/

/-- Settles O23: each write is inside the 8 bytes, and the six together replace them all. -/
theorem builderByMemoryWrites : Obligations.BuilderByMemoryWrites := by
  unfold Obligations.BuilderByMemoryWrites
  intro b addr fc start count hb
  match b, hb with
  | [_, _, _, _, _, _, _, _], _ =>
    exact ⟨_, _, _, _, _, _, rfl, rfl, rfl, rfl, rfl, rfl, rfl⟩

theorem memRead_requestFrame (addr fc : Byte) (start count : U16) :
    memRead1 (requestFrame addr fc start count) 0 = some addr ∧
    memRead1 (requestFrame addr fc start count) 1 = some fc ∧
    memRead2 (requestFrame addr fc start count) 2 = some start ∧
    memRead2 (requestFrame addr fc start count) 4 = some count := by
  have hstart : memRead2 (requestFrame addr fc start count) 2 = some (regOfBytes (hi8 start) (lo8 start)) := rfl
  have hcount : memRead2 (requestFrame addr fc start count) 4 = some (regOfBytes (hi8 count) (lo8 count)) := rfl
  rw [regOfBytes_hi8_lo8] at hstart hcount
  exact ⟨rfl, rfl, hstart, hcount⟩

/-- The operands of a request frame can be read back from it, so it determines them (R145). -/
theorem requestFrame_injective {addr fc addr' fc' : Byte} {start count start' count' : U16}
    (h : requestFrame addr fc start count = requestFrame addr' fc' start' count') :
    addr = addr' ∧ fc = fc' ∧ start = start' ∧ count = count' := by
  have hread := memRead_requestFrame addr fc start count
  rw [h] at hread
  obtain ⟨haddr, hfc, hstart, hcount⟩ := hread
  obtain ⟨haddr', hfc', hstart', hcount'⟩ := memRead_requestFrame addr' fc' start' count'
  exact ⟨Option.some.inj (haddr.symm.trans haddr'), Option.some.inj (hfc.symm.trans hfc'),
    Option.some.inj (hstart.symm.trans hstart'), Option.some.inj (hcount.symm.trans hcount')⟩

/-- Settles O27: `TXF` is the request frame, from which its operands are read back. -/
theorem builtOperandsReadBack : Obligations.BuiltOperandsReadBack := by
  unfold Obligations.BuiltOperandsReadBack
  constructor
  · intro a c st n s t h
    obtain ⟨hfree, -⟩ := whenFree_cases h
    rw [execFrameBuild_txf h, requestFrame_take_six]
    obtain ⟨haddr, hfc, hstart, hcount⟩ := memRead_requestFrame a c st n
    exact ⟨haddr, hfc, hstart, hcount, _, _, _, exec_crcCompute_of_free _ hfree, rfl, rfl⟩
  · intro a c a' c' st n st' n' s t s' t' h h' htxf
    rw [execFrameBuild_txf h, execFrameBuild_txf h'] at htxf
    exact requestFrame_injective htxf

end Sys2Proof.Machine
end

section
/-! Proofs about the decoder's results: the round trip of a response (rule R162), short reads (rule R163), what
`FRAME.DECODE` depends on (rule R164), exception responses (rule R216) and a response frame issued bare (log entry
8); and the exchange that ends in it (rules R172, R173, R182). -/

namespace Sys2Proof.Machine

/-! ## Frames with their own checksum -/

/-- The byte count of up to 127 registers fits its byte. -/
theorem toNat_ofNat_two_mul {n : Nat} (h : n ≤ 127) : (BitVec.ofNat 8 (2 * n)).toNat = 2 * n := by
  rw [BitVec.toNat_ofNat, Nat.mod_eq_of_lt (by omega)]

theorem dataBytes_length_half (regs : List U16) : (dataBytes regs).length / 2 = regs.length := by
  rw [dataBytes_length]
  omega

/-- A frame of whole registers with its own checksum decodes to them, where its checked byte count counts them. -/
theorem State.decodeResponse_registers {s : State} (a c : Byte) {bc : Byte} {regs : List U16} (n : U16)
    (hagree : s.cfg.checkByteCount = true → bc.toNat = 2 * regs.length) :
    (s.decodeResponse (withTrailer ([a, c, bc] ++ dataBytes regs)) n).out =
        some { err := .noError, data := some (.registers regs) } ∧
      (s.decodeResponse (withTrailer ([a, c, bc] ++ dataBytes regs)) n).regs = some regs := by
  simpa using State.decodeResponse_withTrailer (s := s) (data := dataBytes regs) a c n (by rwa [dataBytes_length_half])

/-- Settles O35: the bytes that `CRC.COMPUTE` gives are the trailer, and the data bytes are those of the registers,
whose decoding is the induction of `regsOfData_dataBytes`. -/
theorem responseRoundTrip : Obligations.ResponseRoundTrip := by
  unfold Obligations.ResponseRoundTrip
  intro a w s hfree _ hfew u lo hi hcompute hout
  rw [exec_crcCompute_of_free _ hfree] at hcompute
  cases hcompute
  cases hout
  have hdecoded := State.decodeResponse_registers (s := s) (bc := BitVec.ofNat 8 (2 * w.length)) (regs := w)
    a 0x03#8 (BitVec.ofNat 16 w.length) fun hcheck => toNat_ofNat_two_mul (hfew hcheck)
  exact ⟨_, exec_frameDecode_of_free _ _ hfree, hdecoded.1⟩

/-! ## Short reads -/

/-- With the byte count unchecked the checksum gate alone decides behind the length guard. -/
theorem State.decodeResponse_nreg_unchecked {s : State} {f : List Byte} (n : U16)
    (hoff : s.cfg.checkByteCount = false) (hlong : 5 ≤ f.length) :
    (s.decodeResponse f n).nreg = if ownChecksum f = true then some (computedCount f) else none := by
  split
  · next hsum =>
    have hv := decodeVerdict_of_ownChecksum s.cfg.checkByteCount hlong hsum
    rw [if_neg (by simp [hoff])] at hv
    rw [State.nreg, (State.decodeResponse_of_ok n hv).2, Option.map_some, extractRegs_length]
  · next hsum =>
    have hv := decodeVerdict_crcMismatch s.cfg.checkByteCount hlong (Bool.eq_false_iff.mpr hsum)
    rw [State.nreg, (State.decodeResponse_of_error n hv).2, Option.map_none]

/-- The rule's example, two registers where three were requested (R163). -/
theorem withTrailer_example_shortRead :
    withTrailer ([0x01#8, 0x03#8, 0x06#8] ++ [0xAE#8, 0x41#8, 0x56#8, 0x52#8]) =
      [0x01#8, 0x03#8, 0x06#8, 0xAE#8, 0x41#8, 0x56#8, 0x52#8, 0x4D#8, 0x52#8] := by
  decide +kernel

/-- Settles O36: the two bounds are arithmetic, and the bytes received are decoded as any frame is. -/
theorem shortReads : Obligations.ShortReads := by
  unfold Obligations.ShortReads
  refine ⟨?_, fun s hfree hoff => ⟨?_, ?_⟩⟩
  · intro f n s hfree hoff hlong hshort
    refine ⟨by omega, fun i hi => by omega, _, exec_frameDecode_of_free f n hfree, ?_⟩
    have hgate : ownChecksum f = true ↔ f.drop (f.length - 2) = trailer (crc16 (f.take (f.length - 2))) :=
      beq_iff_eq
    rw [State.decodeResponse_nreg_unchecked n hoff hlong, computedCount]
    simp only [hgate]
  · refine ⟨_, exec_frameDecode_of_free _ _ hfree, ?_⟩
    rw [State.decodeResponse_err, decodeVerdict_crcMismatch _ (by decide) (by decide +kernel)]
  · rw [← withTrailer_example_shortRead]
    exact ⟨_, exec_frameDecode_of_free _ _ hfree,
      (State.decodeResponse_withTrailer _ _ _ (by simp [hoff])).2⟩

/-- Settles O37: the results are those of the verdict, in which the configuration stands with one bit. -/
theorem frameDecodeIsPure : Obligations.FrameDecodeIsPure := by
  unfold Obligations.FrameDecodeIsPure
  intro f n n' s s' hfree hfree' hcheck
  obtain ⟨hout, hregs⟩ := s.decodeResponse_verdict f n
  obtain ⟨hout', hregs'⟩ := s'.decodeResponse_verdict f n'
  refine ⟨_, _, exec_frameDecode_of_free f n hfree, exec_frameDecode_of_free f n' hfree', ?_, ?_, by simp⟩
  · rw [hout, hout', hcheck]
  · rw [hregs, hregs', hcheck]

/-! ## Response frames issued bare -/

/-- On a free block a response frame loads its bytes, computes the checksum of all but its trailer and delivers the
decoder's verdict. -/
theorem exec_rspFc03_eq_deliver (addr byteCount : Byte) (regs : List U16) (crcLo crcHi : Byte) {s : State}
    (hfree : s.running = none) :
    ∃ bi k, exec (.rspFc03 addr byteCount regs crcLo crcHi) s = .next (State.deliver { s with
      input := rspFc03Bytes addr byteCount regs crcLo crcHi, rxb := rspFc03Bytes addr byteCount regs crcLo crcHi
      crc := crc16 (responsePrefix addr 0x03#8 byteCount regs), bi := bi, k := k }
      (decodeVerdict s.cfg.checkByteCount (rspFc03Bytes addr byteCount regs crcLo crcHi))) := by
  have hlong : 5 ≤ (rspFc03Bytes addr byteCount regs crcLo crcHi).length := by
    simp [rspFc03Bytes, responsePrefix]
  have hprefix : payloadPrefix (rspFc03Bytes addr byteCount regs crcLo crcHi) =
      responsePrefix addr 0x03#8 byteCount regs := payloadPrefix_append _ _ _
  obtain ⟨bi, k, h⟩ := s.decodeResponse_eq_deliver s.reqcnt hlong
  refine ⟨bi, k, ?_⟩
  rw [← hprefix, exec, execRspFc03, whenFree_of_free _ _ hfree, h]
  rfl

/-- A response frame whose trailer is right is judged by its byte count, where that is checked. -/
theorem decodeVerdict_rspFc03Bytes (cb : Bool) (addr byteCount : Byte) (regs : List U16) {crcLo crcHi : Byte}
    (hsum : [crcLo, crcHi] = trailer (crc16 (responsePrefix addr 0x03#8 byteCount regs))) :
    decodeVerdict cb (rspFc03Bytes addr byteCount regs crcLo crcHi) =
      if cb = true ∧ byteCount.toNat ≠ 2 * regs.length then .error .malformedFrame else .ok regs := by
  have hframe : rspFc03Bytes addr byteCount regs crcLo crcHi =
      withTrailer ([addr, 0x03#8, byteCount] ++ dataBytes regs) := by
    rw [rspFc03Bytes, hsum]
    rfl
  rw [hframe, decodeVerdict_withTrailer, dataBytes_length_half, regsOfData_dataBytes]

/-- Settles O55: the three cases are the decoder's verdicts on a frame of whole registers. -/
theorem responseFrameIsDecoded : Obligations.ResponseFrameIsDecoded := by
  unfold Obligations.ResponseFrameIsDecoded
  intro addr byteCount regs crcLo crcHi s hfree
  obtain ⟨bi, k, h⟩ := exec_rspFc03_eq_deliver addr byteCount regs crcLo crcHi hfree
  refine ⟨bi, k, responsePrefix addr 0x03#8 byteCount regs, rfl, ?_, ?_, ?_⟩
  · intro hsum hagree
    rw [h, decodeVerdict_rspFc03Bytes _ _ _ _ hsum, if_neg fun hbad => hbad.2 (hagree hbad.1),
      State.deliver_ok_of_free (by exact hfree)]
    rfl
  · intro hsum
    have hgate : ownChecksum (rspFc03Bytes addr byteCount regs crcLo crcHi) = false := by
      rw [rspFc03Bytes, ownChecksum_append]
      simpa [trailer] using hsum
    rw [h, decodeVerdict_crcMismatch _ (by simp [rspFc03Bytes, responsePrefix]) hgate,
      State.deliver_error_of_free (by exact hfree)]
    rfl
  · intro hsum hcheck hne
    rw [h, decodeVerdict_rspFc03Bytes _ _ _ _ hsum, if_pos ⟨hcheck, hne⟩,
      State.deliver_error_of_free (by exact hfree)]
    rfl

/-! ## The decoder at the end of an exchange -/

/-- A frame that passes both checks is decoded to its registers. -/
theorem decodeVerdict_ok {cb : Bool} {f : List Byte} (hlong : 5 ≤ f.length) (hsum : ownChecksum f = true)
    (hagree : cb = true → byteCountAgrees f = true) : decodeVerdict cb f = .ok (extractRegs f) := by
  rw [decodeVerdict_of_ownChecksum cb hlong hsum, if_neg]
  rintro ⟨hcheck, hdiffers⟩
  exact Bool.eq_false_iff.mp hdiffers (hagree hcheck)

/-- Settles O38: the exchange ends in the decoder on the bytes read, whose verdict is the registers. -/
theorem clientExchangeCompletes : Obligations.ClientExchangeCompletes := by
  unfold Obligations.ClientExchangeCompletes
  intro addr start count s b wrest rrest hfree hfits hf hw hrd hlong hb hsum hagree
  obtain ⟨bi₀, k₀, h⟩ := exec_clientRhr_eq_afterRead (addr := addr) (start := start) hfree hfits hf hw
  rw [h, afterRead_of_ok (s := s.readIssued addr start count bi₀ k₀ wrest) hrd hb]
  have hv := decodeVerdict_ok hlong hsum hagree
  set r := (s.readIssued addr start count bi₀ k₀ wrest).received b rrest
  obtain ⟨bi, k, hdecoded⟩ := r.decodeResponse_eq_deliver count hlong
  rw [show decodeVerdict r.cfg.checkByteCount b = .ok (extractRegs b) from hv, State.deliver_ok_of_free rfl] at hdecoded
  refine ⟨bi, k, ?_⟩
  rw [hfree]
  exact congrArg _ hdecoded

/-- An exception response with its own checksum, as a frame without data bytes (R216). -/
theorem State.decodeResponse_exceptionResponse {s : State} (a c x : Byte) (n : U16)
    (hoff : s.cfg.checkByteCount = false) :
    (s.decodeResponse (withTrailer [a, c, x]) n).err = some .noError ∧
      (s.decodeResponse (withTrailer [a, c, x]) n).regs = some [] := by
  obtain ⟨hout, hregs⟩ := State.decodeResponse_withTrailer (s := s) (bc := x) (data := []) a c n (by simp [hoff])
  exact ⟨congrArg (Option.map Completion.err) hout, hregs⟩

/-- Settles O53: such a frame is decoded as a response without registers, which any read buffer holds. -/
theorem exceptionResponsesAreNotRecognised : Obligations.ExceptionResponsesAreNotRecognised := by
  unfold Obligations.ExceptionResponsesAreNotRecognised
  refine ⟨?_, ?_, by decide +kernel⟩
  · intro a c x n s hfree hoff
    exact ⟨_, exec_frameDecode_of_free _ n hfree, State.decodeResponse_exceptionResponse a c x n hoff⟩
  · intro a c x addr start count s wrest rrest hfree hoff hfits hf hw hrd
    have hb : (withTrailer [a, c, x]).length ≤ responseLength count := by simp [responseLength]
    obtain ⟨bi, k, h⟩ := exec_clientRhr_eq_afterRead (addr := addr) (start := start) hfree hfits hf hw
    rw [h, afterRead_of_ok (s := s.readIssued addr start count bi k wrest) hrd hb]
    exact ⟨_, rfl, State.decodeResponse_exceptionResponse a c x _ hoff⟩

/-! ## Function codes -/

/-- Settles O56: frames are read by their function code, and both builders put theirs at offset 1. -/
theorem functionCodesSelectFormats : Obligations.FunctionCodesSelectFormats := by
  unfold Obligations.FunctionCodesSelectFormats
  refine ⟨fun _ _ _ _ _ _ _ _ => rfl, fun _ _ _ _ _ _ _ _ => rfl, ?_, ?_, ?_⟩
  · intro a fc bc lo hi regs hregs
    exact decodeRspv_of_registers a fc bc lo hi hregs
  · intro a st n s t hf h
    rw [execClientRhr_txf h hf]
    rfl
  · intro a fc st n s t h
    rw [execFrameBuild_txf h, requestFrame_take_six]
    rfl

end Sys2Proof.Machine
end

section
/-! Proofs about the phases of an exchange: what each keeps, the answers beyond the contract (rules R172, R173), the
hang (rule R187), answers that come late (log entries 1 and 2), and the error class an exchange ends with (rules R201,
R208). -/

namespace Sys2Proof.Machine

/-! ## A busy block -/

/-- Settles O60: every meaning but the reserved frame's begins with the issue, which needs a free block. -/
theorem issueWhileBusyIsRefused : Obligations.IssueWhileBusyIsRefused := by
  unfold Obligations.IssueWhileBusyIsRefused
  intro i s w hrun
  cases i with
  | crcCompute input => exact .inl (whenFree_of_running s _ w hrun)
  | crcVerify input => exact .inl (whenFree_of_running s _ w hrun)
  | frameBuild addr fc start count => exact .inl (whenFree_of_running s _ w hrun)
  | frameDecode input reqcnt => exact .inl (whenFree_of_running s _ w hrun)
  | clientRhr addr start count => exact .inl (whenFree_of_running s _ w hrun)
  | reqFc03 addr start count crcLo crcHi => exact .inl (whenFree_of_running s _ w hrun)
  | rspFc03 addr byteCount regs crcLo crcHi => exact .inl (whenFree_of_running s _ w hrun)
  | reqFc16 addr d2 d3 d4 d5 crcLo crcHi => exact .inr ⟨⟨_, _, _, _, _, _, _, rfl⟩, rfl⟩

theorem free_of_exec_next {i : Instr} {s t : State} (h : exec i s = .next t) : s.running = none := by
  cases hrun : s.running with
  | none => rfl
  | some w =>
    obtain hbusy | ⟨-, hreserved⟩ := issueWhileBusyIsRefused i s w hrun
    · cases hbusy.symm.trans h
    · cases hreserved.symm.trans h

/-! ## What the phases keep -/

/-- What the phases of an exchange keep between `s` and `t`: the configuration, the host and the operands, and while
the exchange waits the values of its outputs. -/
structure PhaseKeeps (s t : State) : Prop where
  cfg : t.cfg = s.cfg
  host : t.host = s.host
  addr : t.addr = s.addr
  start : t.start = s.start
  count : t.count = s.count
  waiting : t.running ≠ none → t.out = s.out ∧ t.regs = s.regs

theorem State.await_keeps (s : State) (w : Wait) : PhaseKeeps s (s.await w) := by
  constructor <;> simp

/-- A phase that ends the exchange keeps what the operation it ends in keeps. -/
theorem PhaseKeeps.of_ended {s t : State} (hrun : t.running = none) (hcfg : t.cfg = s.cfg)
    (hhost : t.host = s.host) (haddr : t.addr = s.addr) (hstart : t.start = s.start)
    (hcount : t.count = s.count) : PhaseKeeps s t :=
  ⟨hcfg, hhost, haddr, hstart, hcount, fun h => absurd hrun h⟩

theorem afterRead_keeps {s t : State} (h : afterRead s = .next t) : PhaseKeeps s t := by
  obtain ⟨-, rfl⟩ | ⟨_, _, -, -, ⟨-, rfl⟩ | ⟨-, rfl⟩⟩ := afterRead_cases h
  · exact s.await_keeps .read
  · exact .of_ended rfl rfl rfl rfl rfl rfl
  · apply PhaseKeeps.of_ended <;> simp

theorem afterWrite_keeps {s t : State} (h : afterWrite s = .next t) : PhaseKeeps s t := by
  obtain ⟨-, rfl⟩ | ⟨_, _, -, -, ⟨-, rfl⟩ | ⟨-, -, hread⟩⟩ := afterWrite_cases h
  · exact s.await_keeps .write
  · exact .of_ended rfl rfl rfl rfl rfl rfl
  · exact { afterRead_keeps hread with }

theorem buildAndWrite_keeps {s t : State} (h : buildAndWrite s = .next t) : PhaseKeeps s t :=
  { afterWrite_keeps h with }

theorem afterFlush_keeps {s t : State} (h : afterFlush s = .next t) : PhaseKeeps s t := by
  obtain ⟨-, rfl⟩ | ⟨_, _, -, ⟨-, -, rfl⟩ | ⟨-, hwrite⟩⟩ := afterFlush_cases h
  · exact s.await_keeps .flush
  · exact .of_ended rfl rfl rfl rfl rfl rfl
  · exact { buildAndWrite_keeps hwrite with }

/-- The issue of an exchange has the operands loaded and its outputs emptied before the first phase. -/
theorem execClientRhr_keeps {addr : Byte} {start count : U16} {s t : State}
    (h : execClientRhr addr start count s = .next t) : PhaseKeeps (s.loadExchange addr start count) t := by
  obtain ⟨-, -, ⟨-, hflush⟩ | ⟨-, hwrite⟩⟩ := execClientRhr_cases h
  · exact { afterFlush_keeps hflush with }
  · exact buildAndWrite_keeps hwrite

theorem resumeExchange_keeps {w : Wait} {s t : State} (h : resumeExchange w s = .next t) : PhaseKeeps s t := by
  obtain ⟨-, -, hflush⟩ | ⟨-, -, hwrite⟩ | ⟨-, -, hread⟩ := resumeExchange_cases h
  · exact afterFlush_keeps hflush
  · exact afterWrite_keeps hwrite
  · exact afterRead_keeps hread

/-! ## Answers beyond the contract -/

theorem afterWrite_of_beyond {s : State} {a : WriteAnswer} {rest : List WriteAnswer}
    (ha : s.writeAnswers = a :: rest) (hover : requestLength < a.accepted) :
    afterWrite s = .refused .writeAnswerBeyondContract := by
  simp [afterWrite, ha, hover]

theorem afterRead_of_beyond {s : State} {a : ReadAnswer} {rest : List ReadAnswer}
    (ha : s.readAnswers = a :: rest) (hover : responseLength s.count < a.bytes.length) :
    afterRead s = .refused .readAnswerBeyondContract := by
  simp [afterRead, ha, hover]

/-- Settles O44: the exchange gets to its write, or to its read, which refuses the answer. -/
theorem answersBeyondContractAreRefused : Obligations.AnswersBeyondContractAreRefused := by
  unfold Obligations.AnswersBeyondContractAreRefused
  constructor
  · intro addr start count s a rest hfree hfits hf ha hover
    obtain ⟨bi, k, h⟩ := exec_clientRhr_eq_afterWrite (addr := addr) (start := start) hfree hfits hf
    rw [h, afterWrite_of_beyond (s := s.writeIssued addr start count bi k) ha hover]
  · intro addr start count s wrest a rrest hfree hfits hf hw ha hover
    obtain ⟨bi, k, h⟩ := exec_clientRhr_eq_afterRead (addr := addr) (start := start) hfree hfits hf hw
    rw [h, afterRead_of_beyond (s := s.readIssued addr start count bi k wrest) ha hover]

/-! ## The hang -/

theorem afterFlush_of_unanswered {s : State} (h : s.flushAnswers = []) : afterFlush s = .next (s.await .flush) := by
  simp [afterFlush, h]

theorem afterWrite_of_unanswered {s : State} (h : s.writeAnswers = []) : afterWrite s = .next (s.await .write) := by
  simp [afterWrite, h]

theorem afterRead_of_unanswered {s : State} (h : s.readAnswers = []) : afterRead s = .next (s.await .read) := by
  simp [afterRead, h]

theorem afterRead_ne_fault (s : State) (r : Fault) : afterRead s ≠ .fault r := by
  unfold afterRead
  split
  · nofun
  · split
    · nofun
    · split <;> nofun

theorem afterWrite_ne_fault (s : State) (r : Fault) : afterWrite s ≠ .fault r := by
  unfold afterWrite
  split
  · nofun
  · split
    · nofun
    · split
      · nofun
      · exact afterRead_ne_fault _ r

theorem afterFlush_ne_fault (s : State) (r : Fault) : afterFlush s ≠ .fault r := by
  unfold afterFlush
  split
  · nofun
  · split
    · nofun
    · exact afterWrite_ne_fault _ r

/-- The answer that the wait is for is missing. -/
def State.Unanswered (s : State) : Wait → Prop
  | .flush => s.flushAnswers = []
  | .write => s.writeAnswers = []
  | .read => s.readAnswers = []

theorem resumeExchange_fault_iff (w : Wait) (s : State) :
    resumeExchange w s = .fault (.transportDoesNotAnswer w) ↔ s.Unanswered w := by
  cases w with
  | flush => simp [resumeExchange, State.Unanswered, afterFlush_ne_fault]
  | write => simp [resumeExchange, State.Unanswered, afterWrite_ne_fault]
  | read => simp [resumeExchange, State.Unanswered, afterRead_ne_fault]

/-- Settles O47: each of the three transactions, issued without its answer, leaves the block waiting with emptied
outputs; only a missing answer makes its step a fault, and no instruction is issued to a busy block. -/
theorem unansweredTransactionHangs : Obligations.UnansweredTransactionHangs := by
  unfold Obligations.UnansweredTransactionHangs
  refine ⟨?_, ?_, ?_, ?_, ?_⟩
  · intro s w hrun
    rw [step_of_running hrun, resumeExchange_fault_iff]
    cases w <;> rfl
  · intro addr start count s t h hrun
    obtain ⟨hout, hregs⟩ := (execClientRhr_keeps h).waiting hrun
    exact ⟨State.err_eq_none_iff.mpr hout, State.valid_eq_none_of_out_eq_none hout, hregs,
      fun i u hi => hrun (free_of_exec_next hi)⟩
  · intro addr start count s hfree hfits hen hnone
    rw [exec_clientRhr_of_flushEn hfree hfits hen,
      afterFlush_of_unanswered (s := (s.loadExchange addr start count).transact .flush) hnone]
    rfl
  · intro addr start count s hfree hfits hf hnone
    obtain ⟨bi, k, h⟩ := exec_clientRhr_eq_afterWrite (addr := addr) (start := start) hfree hfits hf
    refine ⟨bi, k, ?_⟩
    rw [h, afterWrite_of_unanswered (s := s.writeIssued addr start count bi k) hnone]
    rfl
  · intro addr start count s wrest hfree hfits hf hw hnone
    obtain ⟨bi, k, h⟩ := exec_clientRhr_eq_afterRead (addr := addr) (start := start) hfree hfits hf hw
    refine ⟨bi, k, ?_⟩
    rw [h, afterRead_of_unanswered (s := s.readIssued addr start count bi k wrest) hnone]
    rfl

/-! ## Late answers -/

/-- What becomes of an exchange at its flush: it waits for it, ends with it, or the flush passes. -/
theorem execClientRhr_flush_cases {addr : Byte} {start count : U16} {s t : State}
    (h : execClientRhr addr start count s = .next t) :
    (s.cfg.flushEn = true ∧ s.flushAnswers = [] ∧
      t = ((s.loadExchange addr start count).transact .flush).await .flush) ∨
    (s.cfg.flushEn = true ∧ s.cfg.flushErrAborts = true ∧ ∃ rest, s.flushAnswers = .error :: rest ∧
      t = (((s.loadExchange addr start count).transact .flush).flushed rest).raise .transportFlush) ∨
    s.FlushPasses := by
  obtain ⟨-, -, ⟨hen, hflush⟩ | ⟨hdis, -⟩⟩ := execClientRhr_cases h
  · obtain ⟨hnone, ht⟩ | ⟨a, rest, ha, ⟨rfl, habort, ht⟩ | ⟨hpass, -⟩⟩ := afterFlush_cases hflush
    · exact .inl ⟨hen, hnone, ht⟩
    · exact .inr (.inl ⟨hen, habort, rest, ha, ht⟩)
    · exact .inr (.inr fun _ => ⟨a, rest, ha, hpass⟩)
  · exact .inr (.inr fun hen => by simp [hdis] at hen)

/-- A phase with an answer at hand does not see that it has been waited for. -/
theorem afterFlush_await {s : State} (h : s.flushAnswers ≠ []) (w : Wait) :
    afterFlush (s.await w) = afterFlush s := by
  obtain ⟨a, rest, ha⟩ := List.exists_cons_of_ne_nil h
  simp only [afterFlush, State.await_flushAnswers, ha]
  rfl

theorem afterWrite_await {s : State} (h : s.writeAnswers ≠ []) (w : Wait) :
    afterWrite (s.await w) = afterWrite s := by
  obtain ⟨a, rest, ha⟩ := List.exists_cons_of_ne_nil h
  simp only [afterWrite, State.await_writeAnswers, ha]
  rfl

theorem afterRead_await {s : State} (h : s.readAnswers ≠ []) (w : Wait) : afterRead (s.await w) = afterRead s := by
  obtain ⟨a, rest, ha⟩ := List.exists_cons_of_ne_nil h
  simp only [afterRead, State.await_readAnswers, ha]
  rfl

theorem step_await_flush {s : State} (h : s.flushAnswers ≠ []) : step (s.await .flush) = afterFlush s := by
  rw [step_of_running (w := .flush) rfl, resumeExchange, if_neg (by exact h), afterFlush_await h]

theorem step_await_write {s : State} (h : s.writeAnswers ≠ []) : step (s.await .write) = afterWrite s := by
  rw [step_of_running (w := .write) rfl, resumeExchange, if_neg (by exact h), afterWrite_await h]

theorem step_await_read {s : State} (h : s.readAnswers ≠ []) : step (s.await .read) = afterRead s := by
  rw [step_of_running (w := .read) rfl, resumeExchange, if_neg (by exact h), afterRead_await h]

/-- A write that is answered late goes on as from an answer at hand. -/
theorem step_after_late_write {s t : State} (hans : s.writeAnswers ≠ [])
    (h : afterWrite { s with writeAnswers := [] } = .next t) :
    step { t with writeAnswers := s.writeAnswers } = afterWrite s := by
  rw [afterWrite_of_unanswered rfl] at h
  cases h
  exact step_await_write hans

/-- So does a read behind a write that was answered. -/
theorem step_after_late_read {s t : State} (hans : s.readAnswers ≠ [])
    (h : afterWrite { s with readAnswers := [] } = .next t) (hrun : t.running = some .read) :
    step { t with readAnswers := s.readAnswers } = afterWrite s := by
  obtain ⟨-, rfl⟩ | ⟨a, rest, ha, -, ⟨-, rfl⟩ | ⟨hok, hfull, hread⟩⟩ := afterWrite_cases h
  · cases hrun
  · cases hrun
  · rw [afterRead_of_unanswered rfl] at hread
    cases hread
    have hw : s.writeAnswers = { accepted := requestLength, status := .ok } :: rest := by
      rw [← hok, ← hfull]
      exact ha
    rw [afterWrite_of_accepted hw]
    exact step_await_read (s := (s.written rest).awaitResponse.transact (.read (responseLength s.count))) hans

/-- Behind the flush an exchange does not wait for it. -/
theorem afterWrite_running_ne_flush {s t : State} (h : afterWrite s = .next t) : t.running ≠ some .flush := by
  obtain ⟨-, rfl⟩ | ⟨_, _, -, -, ⟨-, rfl⟩ | ⟨-, -, hread⟩⟩ := afterWrite_cases h
  · simp
  · simp
  · obtain ⟨-, rfl⟩ | ⟨_, _, -, -, ⟨-, rfl⟩ | ⟨-, rfl⟩⟩ := afterRead_cases hread <;> simp

/-- An exchange that waits for its write or its read has passed its flush. -/
theorem flushPasses_of_running {addr : Byte} {start count : U16} {s t : State} {w : Wait}
    (h : exec (.clientRhr addr start count) s = .next t) (hrun : t.running = some w) (hw : w ≠ .flush) :
    s.FlushPasses := by
  obtain ⟨-, -, rfl⟩ | ⟨-, -, _, -, rfl⟩ | hpass := execClientRhr_flush_cases h
  · exact absurd (Option.some.inj hrun).symm hw
  · cases hrun
  · exact hpass

/-- `exec_clientRhr_eq_afterWrite` with the values of `BI` and `K` named: they are the same whatever the transport
answers. -/
theorem exec_clientRhr_eq_afterWrite_of_flushPasses {addr : Byte} {start count : U16} {s : State}
    (hfree : s.running = none) (hfits : responseLength count ≤ s.cfg.rxCap) (hf : s.FlushPasses) :
    exec (.clientRhr addr start count) s = afterWrite (s.writeIssued addr start count
      (Config.deadByteIndex (requestPrefix addr 0x03#8 start count))
      (Config.deadBitCounter (requestPrefix addr 0x03#8 start count))) :=
  execClientRhr_of_flushPasses hfree hfits hf

/-- Settles O48: the waiting state is the state at that phase of the issue, without the answers. -/
theorem lateAnswersMakeNoDifference : Obligations.LateAnswersMakeNoDifference := by
  unfold Obligations.LateAnswersMakeNoDifference
  intro addr start count s t
  refine ⟨fun hans h hrun => ?_, fun hans h hrun => ?_, fun hans h hrun => ?_⟩
  · obtain ⟨hfree, hfits, ⟨hen, hflush⟩ | ⟨-, hwrite⟩⟩ := execClientRhr_cases h
    · rw [afterFlush_of_unanswered rfl] at hflush
      cases hflush
      rw [exec_clientRhr_of_flushEn (by exact hfree) (by exact hfits) (by exact hen)]
      exact step_await_flush (s := (s.loadExchange addr start count).transact .flush) hans
    · exact absurd hrun (afterWrite_running_ne_flush hwrite)
  · have hf := flushPasses_of_running h hrun (by decide)
    obtain ⟨hfree, hfits, -⟩ := execClientRhr_cases h
    rw [exec_clientRhr_eq_afterWrite_of_flushPasses hfree hfits hf] at h
    rw [exec_clientRhr_eq_afterWrite_of_flushPasses (by exact hfree) (by exact hfits) (by exact hf)]
    exact step_after_late_write (s := s.writeIssued addr start count _ _) hans h
  · have hf := flushPasses_of_running h hrun (by decide)
    obtain ⟨hfree, hfits, -⟩ := execClientRhr_cases h
    rw [exec_clientRhr_eq_afterWrite_of_flushPasses hfree hfits hf] at h
    rw [exec_clientRhr_eq_afterWrite_of_flushPasses (by exact hfree) (by exact hfits) (by exact hf)]
    exact step_after_late_read (s := s.writeIssued addr start count _ _) hans h hrun

/-! ## Error classes -/

/-- Settles O49: the codes are the definition's. -/
theorem errorCodes : Obligations.ErrorCodes := by
  unfold Obligations.ErrorCodes
  exact ⟨rfl, rfl, rfl, rfl, rfl, rfl⟩

theorem State.complete_err (s : State) (r : Result) : (s.complete r).err = some .noError := rfl

theorem State.verifyFrame_err (s : State) (f : List Byte) :
    (s.verifyFrame f).err = some (if f.length < 2 then .malformedFrame else .noError) := by
  rw [State.err, State.verifyFrame_out]
  split <;> rfl

/-- The error class of an exchange from its read on, where it has ended. -/
theorem afterRead_err_iff {s t : State} {e : Err} (hout : s.out = none) (h : afterRead s = .next t) :
    t.err = some e ↔ ∃ r rest, s.readAnswers = r :: rest ∧ readError s.cfg r = e := by
  obtain ⟨hnone, rfl⟩ | ⟨r, rest, hr, -, ⟨hst, rfl⟩ | ⟨hst, rfl⟩⟩ := afterRead_cases h
  · simp [hnone, State.await_err_ne hout]
  · simp [hr, State.raise_err, readError, hst]
  · simp [hr, State.decodeResponse_err_eq_decodeError, readError, hst]

/-- The write was answered by `w`, which failed or fell short (R179). -/
def State.WriteFails (s : State) : Prop :=
  ∃ w rest, s.writeAnswers = w :: rest ∧ (w.status = .error ∨ w.accepted < requestLength)

/-- The error class of an exchange from its write on, where it has ended. -/
theorem afterWrite_err_iff {s t : State} {e : Err} (hout : s.out = none) (h : afterWrite s = .next t) :
    t.err = some e ↔ (s.WriteFails ∧ e = .transportWrite) ∨
      ∃ r, (∃ wrest rrest, s.writeAnswers = { accepted := requestLength, status := .ok } :: wrest ∧
        s.readAnswers = r :: rrest) ∧ readError s.cfg r = e := by
  obtain ⟨hnone, rfl⟩ | ⟨w, rest, hw, -, ⟨hbad, rfl⟩ | ⟨hok, hfull, hread⟩⟩ := afterWrite_cases h
  · simp [State.WriteFails, hnone, State.await_err_ne hout]
  · have hfails : s.WriteFails := ⟨w, rest, hw, hbad⟩
    have hne : w ≠ { accepted := requestLength, status := .ok } := by
      rintro rfl
      simp at hbad
    simp [hfails, hw, hne, State.raise_err, eq_comm]
  · have hgood : w = { accepted := requestLength, status := .ok } := by rw [← hok, ← hfull]
    have hpass : ¬ s.WriteFails := by
      rintro ⟨w', rest', hw', hbad⟩
      obtain ⟨rfl, -⟩ := List.cons.inj (hw.symm.trans hw')
      simp [hgood] at hbad
    rw [afterRead_err_iff (by simpa using hout) hread]
    simp [hpass, hw, hgood]

/-- An enabled flush is answered with an error, and that aborts (R177). -/
def State.FlushAborts (s : State) : Prop :=
  s.cfg.flushEn = true ∧ s.cfg.flushErrAborts = true ∧ ∃ rest, s.flushAnswers = .error :: rest

theorem State.FlushAborts.not_flushPasses {s : State} (h : s.FlushAborts) : ¬ s.FlushPasses := by
  obtain ⟨hen, habort, rest, ha⟩ := h
  intro hpass
  obtain ⟨a, rest', ha', hgood⟩ := hpass hen
  obtain ⟨rfl, -⟩ := List.cons.inj (ha.symm.trans ha')
  simp [habort] at hgood

/-- The error class an exchange has ended with: its flush's, its write's, or one from the read on. -/
theorem execClientRhr_err_iff {addr : Byte} {start count : U16} {s t : State} {e : Err}
    (h : exec (.clientRhr addr start count) s = .next t) :
    t.err = some e ↔ (s.FlushAborts ∧ e = .transportFlush) ∨
      (s.FlushPasses ∧ s.WriteFails ∧ e = .transportWrite) ∨
      ∃ r, s.ReadAnsweredBy r ∧ readError s.cfg r = e := by
  obtain ⟨hen, hnone, rfl⟩ | ⟨hen, habort, rest, ha, rfl⟩ | hpass := execClientRhr_flush_cases h
  · have hstuck : ¬ s.FlushPasses := fun hpass => by simpa [hnone] using hpass hen
    have hwaits := State.await_err_ne (s := (s.loadExchange addr start count).transact .flush) rfl .flush e
    simp [State.ReadAnsweredBy, State.FlushAborts, hstuck, hnone, hwaits]
  · have haborts : s.FlushAborts := ⟨hen, habort, rest, ha⟩
    simp [State.ReadAnsweredBy, haborts, haborts.not_flushPasses, State.raise_err, eq_comm]
  · obtain ⟨hfree, hfits, -⟩ := execClientRhr_cases h
    rw [exec_clientRhr_eq_afterWrite_of_flushPasses hfree hfits hpass] at h
    have haborts : ¬ s.FlushAborts := fun hab => hab.not_flushPasses hpass
    rw [afterWrite_err_iff rfl h]
    simp [State.ReadAnsweredBy, State.writeIssued, State.WriteFails, haborts, hpass]

/-- The classes the decoder can report, each on what its checks find (R208). -/
theorem decodeError_eq_noError_iff {cb : Bool} {f : List Byte} :
    decodeError cb f = .noError ↔
      5 ≤ f.length ∧ ownChecksum f = true ∧ (cb = true → byteCountAgrees f = true) := by
  unfold decodeError
  split_ifs <;> simp_all

theorem decodeError_eq_crcMismatch_iff {cb : Bool} {f : List Byte} :
    decodeError cb f = .crcMismatch ↔ 5 ≤ f.length ∧ ownChecksum f = false := by
  unfold decodeError
  split_ifs <;> simp_all

theorem decodeError_eq_malformedFrame_iff {cb : Bool} {f : List Byte} :
    decodeError cb f = .malformedFrame ↔
      f.length < 5 ∨ ownChecksum f = true ∧ cb = true ∧ byteCountAgrees f = false := by
  unfold decodeError
  split_ifs <;> simp_all

/-- The decoder reports no error of the transport. -/
theorem decodeError_ne_transport (cb : Bool) (f : List Byte) :
    decodeError cb f ≠ .transportFlush ∧ decodeError cb f ≠ .transportWrite ∧
      decodeError cb f ≠ .transportRead := by
  unfold decodeError
  split_ifs <;> simp

/-- Neither does an exchange from its read on, but for the read's own. -/
theorem readError_ne_transport (cfg : Cfg) (r : ReadAnswer) :
    readError cfg r ≠ .transportFlush ∧ readError cfg r ≠ .transportWrite := by
  obtain ⟨hflush, hwrite, -⟩ := decodeError_ne_transport cfg.checkByteCount r.bytes
  unfold readError
  split_ifs
  · simp
  · exact ⟨hflush, hwrite⟩

/-- A read's own error is the answer's, whatever bytes came with it. -/
theorem exists_readError_eq_transportRead_iff {cfg : Cfg} {p : ReadAnswer → Prop} :
    (∃ r, p r ∧ readError cfg r = .transportRead) ↔ ∃ b, p { bytes := b, status := .error } := by
  constructor
  · rintro ⟨⟨b, st⟩, hp, he⟩
    cases st with
    | error => exact ⟨b, hp⟩
    | ok => exact absurd he (decodeError_ne_transport cfg.checkByteCount b).2.2
  · rintro ⟨b, hp⟩
    exact ⟨_, hp, rfl⟩

/-- Any other error is the decoder's, on the bytes of a read without an error. -/
theorem exists_readError_eq_iff {cfg : Cfg} {p : ReadAnswer → Prop} {e : Err} (he : e ≠ .transportRead) :
    (∃ r, p r ∧ readError cfg r = e) ↔
      ∃ b, p { bytes := b, status := .ok } ∧ decodeError cfg.checkByteCount b = e := by
  constructor
  · rintro ⟨⟨b, st⟩, hp, hr⟩
    cases st with
    | error => exact absurd hr.symm he
    | ok => exact ⟨b, hp, hr⟩
  · rintro ⟨b, hp, hd⟩
    exact ⟨_, hp, hd⟩

/-- Settles O51: an operation without a transport has its class from its verdict; that of an exchange is its flush's,
its write's, or one from the read on, whose classes the lemmas above tell apart. -/
theorem errorClassesOfOperations : Obligations.ErrorClassesOfOperations := by
  unfold Obligations.ErrorClassesOfOperations
  refine ⟨?_, ?_, ?_, ?_, ?_⟩
  · intro input s t h
    obtain rfl := eq_of_whenFree_next h
    exact State.complete_err _ _
  · intro input s t h
    obtain rfl := eq_of_whenFree_next h
    exact s.verifyFrame_err input
  · intro a c st n s t h
    obtain rfl := eq_of_whenFree_next h
    exact State.complete_err _ _
  · intro f n s t h
    obtain rfl := eq_of_whenFree_next h
    exact s.decodeResponse_err_eq_decodeError f n
  · intro a st n s t e h
    rw [execClientRhr_err_iff h]
    cases e with
    | noError => simp [exists_readError_eq_iff, decodeError_eq_noError_iff]
    | transportWrite => simp [readError_ne_transport, State.WriteFails, requestLength]
    | transportRead => simp [exists_readError_eq_transportRead_iff]
    | crcMismatch => simp [exists_readError_eq_iff, decodeError_eq_crcMismatch_iff]
    | malformedFrame => simp [exists_readError_eq_iff, decodeError_eq_malformedFrame_iff]
    | transportFlush => simp [readError_ne_transport, State.FlushAborts]

end Sys2Proof.Machine
end

section
/-! Proofs about the whole machine: what every operation without a transport leaves and keeps (rules R20, R30), the
configuration (rule R32), and the invariant, at reset, under every step and along every run (rules R28 to R36, R52,
R53, R178, R206). -/

namespace Sys2Proof.Machine

/-! ## Operations without a transport -/

/-- How an operation that does not use the transport ends in `t`: transport, configuration and host are as in `s`, an
output is delivered, and `TXF` is as it was or the frame delivered. -/
structure EndsAlone (s t : State) : Prop extends LeavesTransport s t where
  cfg : t.cfg = s.cfg
  host : t.host = s.host
  delivered : t.out ≠ none
  txf : t.txf = s.txf ∨ t.txf.length = requestLength
  frame : ∀ c f, t.out = some c → c.data = some (.frame f) → t.txf = f

theorem State.verifyFrame_endsAlone (s : State) (f : List Byte) : EndsAlone s (s.verifyFrame f) where
  toLeavesTransport := s.verifyFrame_leavesTransport f
  cfg := by simp
  host := by simp
  delivered := by simp [State.verifyFrame_out]
  txf := .inl (by simp)
  frame c g hc hg := by
    rw [State.verifyFrame_out, Option.some_inj] at hc
    split at hc <;> subst hc <;> cases hg

theorem State.RegistersOrError.data_ne_frame {s : State} (h : s.RegistersOrError) {c : Completion}
    (hc : s.out = some c) (f : List Byte) : c.data ≠ some (.frame f) := by
  cases h with
  | waiting hout => cases hout.symm.trans hc
  | delivered regs hout _ => cases hout.symm.trans hc; simp
  | failed e _ hout _ => cases hout.symm.trans hc; simp

theorem State.decodeResponse_endsAlone (s : State) (f : List Byte) (n : U16) :
    EndsAlone s (s.decodeResponse f n) where
  toLeavesTransport := s.decodeResponse_leavesTransport f n
  cfg := by simp
  host := by simp
  delivered := by simp [(s.decodeResponse_verdict f n).1]
  txf := .inl (by simp)
  frame c g hc hg := absurd hg ((s.decodeResponse_registersOrError f n).data_ne_frame hc g)

theorem exec_endsAlone {i : Instr} {s t : State} (hi : ∀ a st n, i ≠ .clientRhr a st n)
    (h : exec i s = .next t) : EndsAlone s t := by
  cases i with
  | crcCompute input =>
    obtain rfl := eq_of_whenFree_next h
    exact ⟨⟨rfl, rfl, rfl, rfl, rfl, rfl⟩, rfl, rfl, by simp, .inl rfl, by rintro _ _ ⟨⟩ ⟨⟩⟩
  | crcVerify input =>
    obtain rfl := eq_of_whenFree_next h
    exact s.verifyFrame_endsAlone input
  | frameBuild addr fc start count =>
    obtain rfl := eq_of_whenFree_next h
    exact ⟨⟨rfl, rfl, rfl, rfl, rfl, rfl⟩, rfl, rfl, by simp, .inr rfl, by rintro _ _ ⟨⟩ ⟨⟩; rfl⟩
  | frameDecode input reqcnt =>
    obtain rfl := eq_of_whenFree_next h
    exact s.decodeResponse_endsAlone input reqcnt
  | clientRhr addr start count => exact absurd rfl (hi addr start count)
  | reqFc03 addr start count crcLo crcHi =>
    obtain rfl := eq_of_whenFree_next h
    exact s.verifyFrame_endsAlone _
  | rspFc03 addr byteCount regs crcLo crcHi =>
    obtain rfl := eq_of_whenFree_next h
    exact s.decodeResponse_endsAlone _ s.reqcnt
  | reqFc16 addr d2 d3 d4 d5 crcLo crcHi => cases h

/-- Settles O58: what `exec_endsAlone` says of the transport, of `CST` and of the output. -/
theorem onlyClientUsesTheTransport : Obligations.OnlyClientUsesTheTransport := by
  unfold Obligations.OnlyClientUsesTheTransport
  intro i s t hi h
  have he := exec_endsAlone hi h
  exact ⟨he.bus, he.flushAnswers, he.writeAnswers, he.readAnswers, he.cst, he.running, he.delivered⟩

/-! ## The configuration and the host -/

/-- An instruction is an exchange or an operation without a transport. -/
theorem clientRhr_or_not (i : Instr) : (∃ a st n, i = .clientRhr a st n) ∨ ∀ a st n, i ≠ .clientRhr a st n := by
  cases i <;> simp

theorem exec_keeps_cfg_host {i : Instr} {s t : State} (h : exec i s = .next t) :
    t.cfg = s.cfg ∧ t.host = s.host := by
  obtain ⟨a, st, n, rfl⟩ | hi := clientRhr_or_not i
  · have hk := execClientRhr_keeps h
    exact ⟨hk.cfg, hk.host⟩
  · have he := exec_endsAlone hi h
    exact ⟨he.cfg, he.host⟩

/-- Settles O59: neither a phase of an exchange nor an operation writes either element, and the step takes a word from
the host only to run it. -/
theorem configurationIsConstant : Obligations.ConfigurationIsConstant := by
  unfold Obligations.ConfigurationIsConstant
  intro s t h
  obtain ⟨w, -, hresume⟩ | ⟨-, -, rfl⟩ | ⟨word, rest, i, hfree, hhost, -, hexec⟩ := step_cases h
  · have hk := resumeExchange_keeps hresume
    exact ⟨hk.cfg, .inl hk.host⟩
  · exact ⟨rfl, .inl rfl⟩
  · obtain ⟨hcfg, hrest⟩ := exec_keeps_cfg_host hexec
    exact ⟨hcfg, .inr ⟨word, hfree, by rw [hhost, hrest]⟩⟩

/-! ## The invariant -/

/-- Settles O2: the reset state is free, idle and without values. -/
theorem resetMeetsInvariant : Obligations.ResetMeetsInvariant := by
  unfold Obligations.ResetMeetsInvariant
  intro cfg hlegal
  constructor
  case cfgLegal => exact hlegal
  case txfLength => rfl
  all_goals simp [State.reset]

/-- The environment writes nothing that the invariant speaks of. -/
theorem State.Inv.withEnvironment {s : State} (h : s.Inv) (host : List IssueWord) (fl : List Status)
    (wr : List WriteAnswer) (rd : List ReadAnswer) : (s.withEnvironment host fl wr rd).Inv :=
  { h with }

/-- What the invariant says of a running exchange, and of one that is just loaded: its configuration, its room, and
outputs without value. -/
structure State.InExchange (s : State) : Prop where
  cfgLegal : s.cfg.Legal
  txfLength : s.txf.length = requestLength
  noOutput : s.out = none
  noRegisters : s.regs = none
  responseFits : responseLength s.count ≤ s.cfg.rxCap

theorem State.Inv.inExchange {s : State} (h : s.Inv) (hrun : s.running ≠ none) : s.InExchange where
  cfgLegal := h.cfgLegal
  txfLength := h.txfLength
  noOutput := (h.runningHasNoOutput hrun).1
  noRegisters := (h.runningHasNoOutput hrun).2
  responseFits := h.responseFits hrun

/-- `TXF` is 8 bytes behind a phase, and the request while the exchange waits for its write or its read (R178). -/
structure State.HoldsRequest (s : State) : Prop where
  txfLength : s.txf.length = requestLength
  requestBuilt : s.running = some .write ∨ s.running = some .read →
    s.txf = requestFrame s.addr 0x03#8 s.start s.count

theorem PhaseKeeps.holdsRequest {s t : State} (h : PhaseKeeps s t)
    (htxf : t.txf = requestFrame s.addr 0x03#8 s.start s.count) : t.HoldsRequest where
  txfLength := by rw [htxf, requestFrame_length]
  requestBuilt _ := by rw [htxf, h.addr, h.start, h.count]

theorem afterFlush_holdsRequest {s t : State} (hs : s.txf.length = requestLength) (h : afterFlush s = .next t) :
    t.HoldsRequest := by
  have hk := afterFlush_keeps h
  obtain ⟨-, rfl⟩ | ⟨_, _, -, ⟨-, -, rfl⟩ | ⟨-, hwrite⟩⟩ := afterFlush_cases h
  · exact ⟨hs, by simp⟩
  · exact ⟨hs, by simp⟩
  · exact hk.holdsRequest (by simpa using buildAndWrite_txf hwrite)

/-- A phase of an exchange that meets the invariant's terms leaves a state that meets the invariant. -/
theorem State.InExchange.inv_of_phase {s t : State} (hs : s.InExchange) (hkeeps : PhaseKeeps s t)
    (hcst : t.CstTracksRead) (hends : t.RegistersOrError) (hrequest : t.HoldsRequest) : t.Inv where
  cfgLegal := by rw [hkeeps.cfg]; exact hs.cfgLegal
  txfLength := hrequest.txfLength
  cstAwaiting := hcst
  runningHasNoOutput hrun := by
    obtain ⟨hout, hregs⟩ := hkeeps.waiting hrun
    exact ⟨hout.trans hs.noOutput, hregs.trans hs.noRegisters⟩
  errorHasNoData := hends.outputSound.error_iff
  registersDelivered := hends.outputSound.registers
  frameDelivered c f hc hf := absurd hf (hends.data_ne_frame hc f)
  responseFits _ := by rw [hkeeps.count, hkeeps.cfg]; exact hs.responseFits
  requestBuilt := hrequest.requestBuilt

theorem execClientRhr_inv {addr : Byte} {start count : U16} {s t : State} (hs : s.Inv)
    (h : execClientRhr addr start count s = .next t) : t.Inv := by
  obtain ⟨-, hfits, hphase⟩ := execClientRhr_cases h
  have hloaded : (s.loadExchange addr start count).InExchange :=
    ⟨hs.cfgLegal, hs.txfLength, rfl, rfl, hfits⟩
  have hkeeps := execClientRhr_keeps h
  have hrequest : t.HoldsRequest := by
    obtain ⟨-, hflush⟩ | ⟨-, hwrite⟩ := hphase
    · exact afterFlush_holdsRequest (by exact hs.txfLength) hflush
    · exact hkeeps.holdsRequest (buildAndWrite_txf hwrite)
  exact hloaded.inv_of_phase hkeeps (execClientRhr_cstTracksRead h).1 (execClientRhr_registersOrError h) hrequest

theorem resumeExchange_inv {w : Wait} {s t : State} (hs : s.Inv) (hrun : s.running = some w)
    (h : resumeExchange w s = .next t) : t.Inv := by
  have hin : s.InExchange := hs.inExchange (by simp [hrun])
  have hkeeps := resumeExchange_keeps h
  have hcst := resumeExchange_cstTracksRead hrun hs.cstAwaiting h
  obtain ⟨rfl, -, hflush⟩ | ⟨rfl, -, hwrite⟩ | ⟨rfl, -, hread⟩ := resumeExchange_cases h
  · exact hin.inv_of_phase hkeeps hcst (afterFlush_registersOrError hin.noOutput hin.noRegisters hflush)
      (afterFlush_holdsRequest hs.txfLength hflush)
  · exact hin.inv_of_phase hkeeps hcst (afterWrite_registersOrError hin.noOutput hin.noRegisters hwrite)
      (hkeeps.holdsRequest ((afterWrite_txf hwrite).trans (hs.requestBuilt (.inl hrun))))
  · exact hin.inv_of_phase hkeeps hcst (afterRead_registersOrError hin.noOutput hin.noRegisters hread)
      (hkeeps.holdsRequest ((afterRead_txf hread).trans (hs.requestBuilt (.inr hrun))))

/-- A free block is idle. -/
theorem State.Inv.idle_of_free {s : State} (h : s.Inv) (hfree : s.running = none) : s.cst = .idle := by
  cases hcst : s.cst with
  | idle => rfl
  | awaitingResponse => cases hfree.symm.trans (h.cstAwaiting.mp hcst)

theorem EndsAlone.inv {s t : State} (h : EndsAlone s t) (hs : s.Inv) (hfree : s.running = none)
    (hsound : t.OutputSound) : t.Inv where
  cfgLegal := by rw [h.cfg]; exact hs.cfgLegal
  txfLength := by
    obtain hsame | hlen := h.txf
    · rw [hsame, hs.txfLength]
    · exact hlen
  cstAwaiting := by simp [h.cst, h.running, hs.idle_of_free hfree]
  runningHasNoOutput hrun := absurd h.running hrun
  errorHasNoData := hsound.error_iff
  registersDelivered := hsound.registers
  frameDelivered := h.frame
  responseFits hrun := absurd h.running hrun
  requestBuilt := by simp [h.running]

theorem exec_inv {i : Instr} {s t : State} (hs : s.Inv) (h : exec i s = .next t) : t.Inv := by
  obtain ⟨a, st, n, rfl⟩ | hi := clientRhr_or_not i
  · exact execClientRhr_inv hs h
  · exact (exec_endsAlone hi h).inv hs (free_of_exec_next h) (exec_outputSound h)

/-- Settles O3: a resumed exchange, an idle step and every instruction keep the invariant. -/
theorem stepKeepsInvariant : Obligations.StepKeepsInvariant := by
  unfold Obligations.StepKeepsInvariant
  intro s t hs h
  obtain ⟨w, hrun, hresume⟩ | ⟨-, -, rfl⟩ | ⟨_, rest, i, -, -, -, hexec⟩ := step_cases h
  · exact resumeExchange_inv hs hrun hresume
  · exact hs
  · exact exec_inv (hs.withEnvironment rest s.flushAnswers s.writeAnswers s.readAnswers) hexec

/-- Settles O4, by induction on the run. -/
theorem reachableStatesMeetInvariant : Obligations.ReachableStatesMeetInvariant := by
  unfold Obligations.ReachableStatesMeetInvariant
  intro s hs
  induction hs with
  | reset cfg hlegal => exact resetMeetsInvariant cfg hlegal
  | environment _ host fl wr rd ih => exact ih.withEnvironment host fl wr rd
  | step _ hstep ih => exact stepKeepsInvariant _ _ ih hstep

end Sys2Proof.Machine
end
